-- ==== Sys2Proof/Word.lean ====
section
/-! DEFINITION. The word types of the VD-3408 model: bytes, sequence numbers, addresses, line data, and the
tile map's bits. Only types and their plainest arithmetic stand here. -/

namespace Sys2Proof

/-- A byte of a link frame or of a management message (12.1). -/
abbrev Byte := BitVec 8

/-- A link sequence number, a campaign number or a wrapping 16-bit total (R58, R116, R142, R157). -/
abbrev Seq := BitVec 16

/-- A byte address in the 4 GiB table memory window (1.5). -/
abbrev Addr := BitVec 32

/-- The byte mask of a single-beat transfer: bit i selects byte i of the beat. -/
abbrev Mask := BitVec 16

/-- 64 bytes, the byte at the lowest address in the lowest 8 bits. A single beat uses the lowest 128 bits. -/
abbrev Line := BitVec 512

/-- The 512 bytes of one chunk, the byte at the lowest address in the lowest 8 bits. -/
abbrev ChunkData := BitVec 4096

/-- One bit for each of the 131,072 tiles of the window: bit t belongs to tile t (2.4, 2.5). -/
abbrev TileMap := BitVec 131072

/-- Adds to a counter that stops at its limit. -/
def satAdd (limit n k : Nat) : Nat := min limit (n + k)

end Sys2Proof
end

