-- ==== Sys2Proof/Syntax.lean ====
section
/-! DEFINITION. The commands the VD-3408 takes: one constructor of Instr for each row of spec/opcode_table.json,
with the operands the manual gives it. The operands of link frames and of management messages have the widths of
the tables of chapter 12, so a value outside its range is a term of the syntax and the rule that refuses it is modelled. -/

namespace Sys2Proof

/-- The transfer kinds of the table bus (chapter 1, Transfer kinds). -/
inductive XferKind where
  | read | write | readLine | writeLine | lockRead | lockWrite
  deriving DecidableEq, Repr

/-- A termination (chapter 1, Terminations). `done` carries the 64 bytes of a line read or, in its lowest 128 bits,
the beat of a single-beat read; after a write nothing reads it. -/
inductive Term where
  | done (data : Line)
  | fault
  | retry
  deriving DecidableEq, Repr

/-- The body of an ordered frame: what follows its sequence number (12.2). -/
inductive OrderedBody where
  | plan (region : Byte) (base count : BitVec 32) (policy regionEnd : Byte)
  | planEnd
  | tileChunk (tile : BitVec 32) (chunk : Byte) (data : ChunkData)
  | mirror (addr : Addr) (line : Bool) (mask : Mask) (data : Line)
  | digest (tile value : BitVec 32)
  | syncMark
  | unsyncMark
  | quarantine (tile : BitVec 32)
  | abandonTile (tile : BitVec 32)
  | handover
  deriving DecidableEq, Repr

/-- A receiver-to-sender frame (8.2). -/
inductive Report where
  | planAck (number : Seq)
  | planRefuse (reason : Byte)
  | resumeAck (number : Seq)
  | resumeRefuse (number : Seq)
  | applied (seq : Seq)
  | gap (seq : Seq)
  | faulted (seq : Seq) (tile : BitVec 32)
  | digestResult (seq : Seq) (tile : BitVec 32) (result : Byte)
  | demand (tile : BitVec 32)
  | credit (count : Byte)
  deriving DecidableEq, Repr

/-- The content of a HELLO frame (R140, 12.2). -/
structure HelloBody where
  role     : Byte
  identity : BitVec 64
  size     : BitVec 32
  number   : Seq
  state    : Byte
  total    : Seq
  deriving DecidableEq, Repr

/-- A frame as the part sends it (12.2). -/
inductive Frame where
  | hello (body : HelloBody)
  | keepalive (total : Seq)
  | beginCampaign (number : Seq) (identity : BitVec 64) (first : Seq)
  | resume (number next : Seq)
  | abandon (reason : Byte)
  | ordered (seq : Seq) (body : OrderedBody)
  | resync (number sentTotal : Seq)
  | report (r : Report)
  deriving DecidableEq, Repr

/-- The arguments of SET_TUNING, in the order and widths of 12.3. -/
structure TuningArgs where
  startDelay      : BitVec 16
  settleDelay     : BitVec 16
  holdBudget      : BitVec 32
  audit           : Byte
  cueAbort        : Byte
  mirrorThreshold : BitVec 32
  passLimit       : BitVec 16
  nonConvergence  : Byte
  stallRatio      : BitVec 16
  step            : Byte
  ceiling         : Byte
  overflow        : Byte
  stallLimit      : BitVec 16
  applyTimeout    : Byte
  demandWait      : Byte
  deriving DecidableEq, Repr

/-- The commands, one for each row of spec/opcode_table.json and in its order. -/
inductive Instr where
  -- the memory path (chapters 1 and 3)
  | nearTransfer (tag : Fin 16) (kind : XferKind) (addr : Addr) (mask : Mask) (data : Line)
  | arbiterGrant
  | farTermination (id : Nat) (term : Term)
  | pairHoldExpiry (tag : Fin 16)
  | stallLimitExpiry
  -- the management line (chapters 2, 4, 11)
  | setRole (role : Byte)
  | setSize (size : BitVec 32)
  | setIdentity (identity : BitVec 64)
  | loadRegion (region : Byte) (base count : BitVec 32) (policy regionEnd : Byte)
  | clearRegion (region : Byte)
  | loadBank (bank : Byte) (entries : List Byte)
  | selectBank (bank : Byte)
  | setTuning (args : TuningArgs)
  | setShare (share : Byte)
  | setLines (cueMode paceEnable eventMask : Byte) (alertMask : BitVec 16)
  | setLink (enable blanking offTime relink : Byte) (peerWait : BitVec 16)
  | arm
  | disarm
  | start
  | breakCmd
  | resumeCmd
  | abort (kind : Byte)
  | handover
  | clearLatches (conditions : BitVec 16)
  | readStatus
  | readCounters
  | readRegion (region : Byte)
  | readBank (bank : Byte)
  | readFaults
  | readExit
  | softReset
  | unknownCommand (code : Byte) (args : List Byte)
  -- the supplies, RESET_N and the input lines (chapter 11)
  | powerOn (straps : BitVec 3)
  | warmReset
  | cueEdge (rising : Bool)
  | paceChange (high : Bool)
  -- the campaign's timers and block events (chapters 4, 5, 10)
  | startDelayExpiry
  | planWaitExpiry
  | settleExpiry
  | passEnd
  | passClose
  | auditPassEnd
  | heldRegionQuiet
  | freezeRegionComplete
  | handoverQueued
  | holdBudgetExpiry
  | endingClose
  | peerWaitExpiry
  | resumeRepeat
  | resumeWaitExpiry
  -- frames that arrive (chapters 7 to 10, 12)
  | hello (body : HelloBody)
  | keepalive (total : Seq)
  | planAck (number : Seq)
  | planRefuse (reason : Byte)
  | resumeAck (number : Seq)
  | resumeRefuse (number : Seq)
  | applied (seq : Seq)
  | gap (seq : Seq)
  | applyTimeout
  | faulted (seq : Seq) (tile : BitVec 32)
  | digestResult (seq : Seq) (tile : BitVec 32) (result : Byte)
  | demand (tile : BitVec 32)
  | credit (count : Byte)
  | badFrame
  | undefinedFrame (kind : Byte) (content : List Byte)
  | beginFrame (number : Seq) (identity : BitVec 64) (first : Seq)
  | resumeFrame (number next : Seq)
  | abandon (reason : Byte)
  | resync (number sentTotal : Seq)
  | orderedFrameArrival (seq : Seq) (body : OrderedBody)
  -- the receive applier and the transmitter (chapters 8 and 9)
  | applierTake
  | demandWaitExpiry (tile : Nat)
  | transmit
  | keepaliveDue
  | helloTimerExpiry
  | blankingHelloTimer
  -- the link's lanes and timers (chapter 8)
  | lossOfSignal (lane : Fin 2)
  | silenceExpiry
  | quietTimeExpiry
  | laneSignal
  | trained
  | blankingEnd
  | offTimeEnd
  -- the EVT line and RESET_N (chapter 11)
  | evtPulseEnd
  | evtGuardEnd
  | resetNHigh
  deriving DecidableEq, Repr

end Sys2Proof
end

