-- ==== Sys2Proof/Decode.lean ====
section
/-! DEFINITION. The commands that words of the table spell. The table of this block gives no row any bits, so there are
none; the bytes of frames and of management messages are read in Machine/Formats.lean. -/

namespace Sys2Proof

/-- The command a word spells by the table's bits: none, for every word. DESIGN CHOICE (notes/assumptions/3.md). -/
def decodeTableWord (_nbits _w : Nat) : Option Instr := none

end Sys2Proof
end

