-- ==== Sys2Proof/Config.lean ====
section
/-! DEFINITION. The fixed sizes and durations of the VD-3408, and the values the manual leaves open. -/

namespace Sys2Proof.Config

/-- Bytes in a tile (1.5). -/
def tileBytes : Nat := 32768
/-- Tiles in the 4 GiB window (1.5). -/
def tiles : Nat := 131072
/-- Lines in a tile (1.5). -/
def tileLines : Nat := 512
/-- Bytes in a line (1.5). -/
def lineBytes : Nat := 64
/-- Chunks in a tile (1.5). -/
def tileChunks : Nat := 64
/-- Internal transfers the far port keeps outstanding at most (R6). -/
def internalLimit : Nat := 16
/-- Grants in a grant frame (R14). -/
def frameLength : Nat := 64
/-- Entries of the in-flight table (6.1). -/
def inFlightLimit : Nat := 4
/-- Tiles of the demand queue, of the demand table and of the expired list (6.1, 9.1). -/
def demandLimit : Nat := 8
/-- Entries of the fault list and tiles of the quarantine list (6.1, 9.1). -/
def faultLimit : Nat := 16
/-- Entries of the transmit queue (R113). -/
def queueLimit : Nat := 256
/-- Credits at link UP, and frames of the receive buffer (R119, R156). -/
def creditLimit : Nat := 128
/-- Frames of the report list (R138). -/
def reportLimit : Nat := 64
/-- RETRY answers in a row that are taken as FAULT (R103, R152, R158, R173). -/
def retryLimit : Nat := 32
/-- Frames applied between two APPLIED reports at most (R163). -/
def appliedEvery : Nat := 16
/-- Bad frames in a row that make a burst (R133). -/
def burstLimit : Nat := 4
/-- The saturation limit of K and W (5.1). -/
def passCounterLimit : Nat := 1048575
/-- The greatest pass ratio (R85). -/
def ratioLimit : Nat := 1023
/-- The saturation limit of the degrade count and of the pass number (R51, R61). -/
def wordLimit : Nat := 65535
/-- The saturation limit of the mismatch count (10.2). -/
def mismatchLimit : Nat := 16384
/-- The saturation limit of each count of the event tally (R180). -/
def tallyLimit : Nat := 255
/-- Copies of an ABANDON frame (R146). -/
def abandonCopies : Nat := 3

/-- The plan wait, in µs (R60). -/
def planWaitTime : Nat := 100000
/-- The wait for an answer to RESUME, in µs (R77). -/
def resumeWaitTime : Nat := 100000
/-- The interval between two RESUME frames, in µs (R145). -/
def resumeRepeatTime : Nat := 10000
/-- The quiet time after entry to DOWN, in µs (R129). -/
def quietTime : Nat := 1000
/-- The silence time, in µs (R131). -/
def silenceTime : Nat := 5000
/-- The hello timer's period in UP and COOLDOWN, in µs (R140). -/
def helloTime : Nat := 100000

/-- FREE VALUE. The byte that READ_COUNTERS returns for an outcome of the last-pass record: R92 names the seven
outcomes and chapter 12 gives them no codes. The argument is the outcome's place in the list of R92. Nothing
constrains it. DESIGN CHOICE (notes/assumptions/4.md). -/
opaque passOutcomeCode : Nat → Byte

end Sys2Proof.Config
end

