-- ==== Sys2Proof/Machine/State.lean ====
section
/-! DEFINITION. The state of one VD-3408: every register, queue, list, table, flag, timer and pin level that the
manual gives the part, block by block, the reasons a step can stop, and the state after a power-on reset.

A timer is `none` when it is stopped and `some d` when it runs, d being the duration in µs it was started with; the
time that has passed is not in the state (notes/assumptions/2.md). -/

namespace Sys2Proof.Machine

/-- Why a step stops with a fault. No constructor: the manual names no event that stops the part, so no command of
this model ends in a fault. -/
inductive Fault where
  deriving DecidableEq, Repr

/-- Why a step has no meaning. -/
inductive Refusal where
  /-- Raised by `exec` alone, for a command whose meaning is not written. Safe: nothing follows from it. -/
  | notModelled (mnemonic : String)
  deriving DecidableEq, Repr

/-- A timer: stopped, or running with the duration in µs it was started with.
DESIGN CHOICE (notes/assumptions/2.md). -/
abbrev Timer := Option Nat

/-! ### Named values -/

/-- The role of the part (R176). -/
inductive Role where
  | sender | receiver
  deriving DecidableEq, Repr

/-- The campaign states of the sender (4.1). -/
inductive SenderState where
  | idle | armed | delay | plan | sweep | settle | mirror | audit | insync | freeze | drain | handedOver
  | stalled | ending
  deriving DecidableEq, Repr

/-- The states of the receiver (9.1). -/
inductive ReceiverState where
  | idle | receiving | insync | live
  deriving DecidableEq, Repr

/-- The copy policy of a region (R21). -/
inductive Policy where
  | copy | late | zero | skip
  deriving DecidableEq, Repr

/-- The two plan banks (2.3). -/
inductive Bank where
  | bankA | bankB
  deriving DecidableEq, Repr

/-- The exit reasons (R78). -/
inductive ExitReason where
  | noReason | complete | handoverUnconfirmed | abortCommand | abortCue | notConverged | auditFailed | linkLost
  | peerTimeout | peerChanged | peerSilent | sizeMismatch | faultListFull | warmReset | softReset
  deriving DecidableEq, Repr

/-- The eleven latched conditions (R179). -/
inductive Latch where
  | linkBurst | linkLost | mirrorDegraded | holdExpired | handoverFailed | writeRefused | demandTimeout | farFault
  | lockBroken | cueIgnored | auditMismatch
  deriving DecidableEq, Repr

/-- The six events (R180). -/
inductive Event where
  | campaignStart | passEnd | regionEnd | insyncEnter | insyncLeave | campaignEnd
  deriving DecidableEq, Repr

/-- The statuses of a reply (12.4). -/
inductive Status where
  | ok | clamped | busy | role | locked | overlap | range | noPeer | empty | size | badCommand
  deriving DecidableEq, Repr

/-- The abort kinds and the cue abort mode (R73). -/
inductive AbortKind where
  | immediate | orderly
  deriving DecidableEq, Repr

/-- The non-convergence action (R87). -/
inductive NonConvergence where
  | forceMirror | endCampaign
  deriving DecidableEq, Repr

/-- The overflow policy (3.5). -/
inductive Overflow where
  | degrade | stall
  deriving DecidableEq, Repr

/-- The cue mode (R57). -/
inductive CueMode where
  | off | start | startAbort | startBreak
  deriving DecidableEq, Repr

/-- The relink policy (R75). -/
inductive Relink where
  | latched | auto
  deriving DecidableEq, Repr

/-- The blanking time setting (R135). -/
inductive Blanking where
  | ms0 | ms10 | ms50 | ms200
  deriving DecidableEq, Repr

/-- The off-time setting (R135). -/
inductive OffTime where
  | us500 | ms1 | ms2 | ms4
  deriving DecidableEq, Repr

/-- The link states (8.1). -/
inductive LinkState where
  | down | training | blanking | up | cooldown
  deriving DecidableEq, Repr

/-- What the transmit lanes carry (R129, R130). -/
inductive LaneOutput where
  | quiet | pattern | frames
  deriving DecidableEq, Repr

/-- The outcomes of the last-pass record, in the order of R92. -/
inductive PassOutcome where
  | continues | boost | flat | mirror | forced | notConverged | closed
  deriving DecidableEq, Repr

/-! ### The memory path (chapter 1) -/

/-- One near-port tag. `lock` is the tag's lock record; a pair hold runs for the tag exactly while it holds an
address (R11, R12). DEDUCED (notes/assumptions/41.md). -/
structure TagRecord where
  outstanding : Bool
  lock        : Option Addr
  deriving DecidableEq, Repr

/-- A near-port transfer that waits in the pass-through queue or in the hold list. -/
structure Transfer where
  tag  : Fin 16
  kind : XferKind
  addr : Addr
  mask : Mask
  data : Line
  deriving DecidableEq, Repr

/-- The owner of a far-port transfer (R6). `abandoned` is an internal transfer whose requester no longer holds it: its
termination is discarded and it counts toward the limit of 16 until then (R19, R107). -/
inductive Owner where
  | pass (tag : Fin 16)
  | copy (tile line : Nat)
  | apply (index : Nat)
  | fill (tile line : Nat)
  | abandoned
  deriving DecidableEq, Repr

/-- A transfer issued at the far port and not yet terminated. `id` is the model's own name for it.
DESIGN CHOICE (notes/assumptions/11.md). -/
structure FarTransfer where
  id    : Nat
  owner : Owner
  kind  : XferKind
  addr  : Addr
  mask  : Mask
  data  : Line
  deriving DecidableEq, Repr

/-- A termination given at the near port. -/
structure NearTermination where
  tag  : Fin 16
  term : Term
  deriving DecidableEq, Repr

/-- The near port, the pass-through queue, the hold list, the far port and the path arbiter. `nextId` and `nearOut`
are the model's own: the number of the next far-port transfer, and every termination given at the near port so far,
oldest first. DESIGN CHOICE (notes/assumptions/12.md). -/
structure MemoryPath where
  tags        : Vector TagRecord 16
  queue       : List Transfer
  holdList    : List Transfer
  outstanding : List FarTransfer
  frameGrants : Nat
  credit      : Nat
  nextId      : Nat
  nearOut     : List NearTermination
  deriving DecidableEq, Repr

/-! ### The write monitor (chapter 3) -/

/-- An entry of the passage record (R44). -/
structure Passage where
  tag  : Fin 16
  kind : XferKind
  tile : Nat
  deriving DecidableEq, Repr

/-- The stall timer of the transfer at the head of the pass-through queue (R52). `expired`: it has reached the stall
limit and the head has not been granted yet. -/
inductive StallTimer where
  | stopped | running | expired
  deriving DecidableEq, Repr

/-- The write monitor's own state (3.1). -/
structure WriteMonitor where
  regionHold : Option Nat
  drainHold  : Bool
  passage    : List Passage
  stall      : StallTimer
  degrade    : Nat
  deriving DecidableEq, Repr

/-! ### Regions and banks (chapter 2) -/

/-- A valid region entry (2.1). -/
structure Region where
  base      : Nat
  count     : Nat
  policy    : Policy
  regionEnd : Bool
  deriving DecidableEq, Repr

/-- The region table and the plan banks. An invalid region entry is `none`. -/
structure Tables where
  regions : Vector (Option Region) 32
  bankA   : List Nat
  bankB   : List Nat
  active  : Bank
  pending : Option Bank
  deriving DecidableEq, Repr

/-! ### The campaign (chapters 4 and 5) -/

/-- The exit record (R78). -/
structure ExitRecord where
  reason   : ExitReason
  number   : Seq
  lastPass : Nat
  dirtyD   : Nat
  dirtyL   : Nat
  faults   : Nat
  degrade  : Nat
  deriving DecidableEq, Repr

/-- The campaign controller of the sender. `handoverSent` says that the HANDOVER frame of this DRAIN has left the
part at least once (R72). `stalledFrom` is the state STALLED was entered from (R76), `endReason` the reason an
ORDERLY abort recorded (R73), `copyBegun` that the held region's copy has begun (R68). -/
structure Campaign where
  state         : SenderState
  number        : Seq
  breakFlag     : Bool
  auditPassed   : Bool
  tries         : Nat
  handoverSent  : Bool
  passNumber    : Nat
  synced        : Bool
  peerIdentity  : BitVec 64
  peerSize      : Nat
  stalledFrom   : SenderState
  endReason     : ExitReason
  freezeList    : List Nat
  copyBegun     : Bool
  shareOverride : Bool
  startDelay    : Timer
  planWait      : Timer
  settle        : Timer
  holdBudget    : Timer
  peerWait      : Timer
  resumeWait    : Timer
  resumeRepeat  : Timer
  exit          : ExitRecord
  deriving DecidableEq, Repr

/-- The last-pass record (R92). -/
structure PassRecord where
  pass    : Nat
  k       : Nat
  w       : Nat
  r       : Nat
  rho     : Nat
  s       : Nat
  flat    : Nat
  share   : Nat
  outcome : PassOutcome
  deriving DecidableEq, Repr

/-- The pass statistics (5.1) and the effective share with its boost (R15). -/
structure Convergence where
  k        : Nat
  w        : Nat
  s        : Nat
  sMark    : Bool
  flat     : Nat
  lastPass : Option PassRecord
  share    : Nat
  boost    : Bool
  deriving DecidableEq, Repr

/-! ### The copy engine and the audit (chapters 6 and 10) -/

/-- The kind of an in-flight entry. -/
inductive CopyKind where
  | copy | audit
  deriving DecidableEq, Repr

/-- An in-flight entry with its tile buffer (6.1). `retries` holds (line, count) for the lines whose last answer was
RETRY, `waiting` the lines waiting to be read again in the order of their answers, and `buffer` the lines that have
terminated DONE. -/
structure InFlight where
  tile      : Nat
  kind      : CopyKind
  redirtied : Bool
  faulted   : Bool
  issued    : Nat
  done      : Nat
  retries   : List (Nat × Nat)
  waiting   : List Nat
  firstSeq  : Option Seq
  lastSeq   : Option Seq
  buffer    : List (Nat × Line)
  deriving DecidableEq, Repr

/-- An entry of the fault list; QUARANTINED when `quarantined`, else SUSPECT (6.1). -/
structure FaultEntry where
  tile        : Nat
  strikes     : Nat
  quarantined : Bool
  deriving DecidableEq, Repr

/-- A walk position: a bank entry (or a place in the first-occurrence list) and a tile counted from the first tile of
its region. -/
structure Walk where
  entry  : Nat
  offset : Nat
  deriving DecidableEq, Repr

/-- The copy engine (6.1). The sweep walk's position is kept while the FREEZE and DRAIN walks run (R99), so each has
its own. -/
structure CopyEngine where
  inFlight    : List InFlight
  demandQueue : List Nat
  faults      : List FaultEntry
  sweep       : Walk
  freezeWalk  : Nat
  drainWalk   : Walk
  scanPointer : Nat
  deriving DecidableEq, Repr

/-- The audit's state (10.2), but for the audit-passed flag, which the campaign holds. -/
structure Audit where
  walk     : Walk
  walkDone : Bool
  mismatch : Nat
  failed   : Nat
  deriving DecidableEq, Repr

/-! ### The transmit queue (chapter 7) -/

/-- What a transmit queue entry holds (7.1). `tileCut tile n` is a TILE entry cut back after n of its frames were
sent; `mirror` holds the near-port tag of its write and is READY when `ready`, PENDING otherwise; `plan` holds the
region records with their numbers. -/
inductive TxBody where
  | tile (tile : Nat)
  | tileCut (tile chunks : Nat)
  | mirror (tag : Fin 16) (ready : Bool) (addr : Addr) (line : Bool) (mask : Mask) (data : Line)
  | digest (tile : Nat) (value : BitVec 32)
  | syncMark (sync : Bool)
  | quarantine (tile : Nat)
  | plan (records : List (Nat × Region))
  | handover
  deriving DecidableEq, Repr

/-- A transmit queue entry: the model's own number for it, its body, and how many of its frames have been sent.
DESIGN CHOICE (notes/assumptions/12.md). -/
structure TxEntry where
  id   : Nat
  body : TxBody
  sent : Nat
  deriving DecidableEq, Repr

/-- An item of the sent-frame record (7.3): the sequence number, the entry it belongs to, if that entry is still in
the queue, and the frame's place in its entry. -/
structure SentItem where
  seq   : Seq
  entry : Option Nat
  index : Nat
  deriving DecidableEq, Repr

/-- The transmit queue with its mark backlog, sent-frame record and loss handling's waiting frames (R124). -/
structure TxQueue where
  queue      : List TxEntry
  backlog    : List TxBody
  record     : List SentItem
  nextSeq    : Seq
  credits    : Nat
  resync     : Option Seq
  resyncMark : Option Bool
  nextEntry  : Nat
  deriving DecidableEq, Repr

/-! ### The replica link (chapter 8) -/

/-- The contents of the peer's most recent HELLO (R141). -/
structure PeerRecord where
  role     : Role
  identity : BitVec 64
  size     : Nat
  number   : Seq
  state    : Byte
  total    : Seq
  deriving DecidableEq, Repr

/-- A frame of the control list (R137). HELLO's content is taken when it is sent. -/
inductive Control where
  | hello
  | beginCampaign (number : Seq) (identity : BitVec 64) (first : Seq)
  | resume (number next : Seq)
  | abandon (reason : ExitReason) (copies : Nat)
  deriving DecidableEq, Repr

/-- The replica link of one part. On a receiver the control list holds HELLO only, which goes ahead of the report
list (R138). `departure` says that the most recent HELLO was received in COOLDOWN and reported a peer departure (R141).
`signal0` and `signal1` say whether the receive lanes show signal. `linkOut` is the model's own: every frame sent so far,
oldest first. DESIGN CHOICE (notes/assumptions/12.md). -/
structure Link where
  state        : LinkState
  quiet        : Timer
  silence      : Timer
  blanking     : Timer
  offTime      : Timer
  hello        : Timer
  burst        : Nat
  peer         : Option PeerRecord
  departure    : Bool
  control      : List Control
  reports      : List Report
  creditTotal  : Seq
  creditTaken  : Seq
  sentTotal    : Seq
  keepaliveDue : Bool
  signal0      : Bool
  signal1      : Bool
  linkOut      : List Frame
  deriving DecidableEq, Repr

/-! ### The receiving side (chapter 9) -/

/-- An item of the receive buffer: an ordered frame, or a RESYNC marker (R157). -/
inductive RxItem where
  | frame (seq : Seq) (body : OrderedBody)
  | marker (number : Seq)
  deriving DecidableEq, Repr

/-- The frame in application (R158): how many transfers it has, has issued and has had terminated DONE, its RETRY
counts and the transfers waiting to be issued again, whether one failed, and the lines its reads returned.
`silent` is set by a link loss, after which it hands no report (R155). DEDUCED (notes/assumptions/37.md). -/
structure Applying where
  seq     : Seq
  body    : OrderedBody
  silent  : Bool
  total   : Nat
  issued  : Nat
  done    : Nat
  retries : List (Nat × Nat)
  waiting : List Nat
  failed  : Bool
  report  : Option Report
  buffer  : List (Nat × Line)
  deriving DecidableEq, Repr

/-- The tile whose chunks are being applied (R159). -/
structure Assembly where
  tile   : Nat
  next   : Nat
  broken : Bool
  deriving DecidableEq, Repr

/-- The zero fill's place: the ZERO runs (base tile, tile count) still to walk, the current one first, the tile in it,
and the progress of that tile's 512 writes (R152). -/
structure FillPosition where
  runs    : List (Nat × Nat)
  offset  : Nat
  issued  : Nat
  done    : Nat
  retries : List (Nat × Nat)
  waiting : List Nat
  deriving DecidableEq, Repr

/-- The zero fill: not started, running, or complete. -/
inductive Fill where
  | stopped
  | running (p : FillPosition)
  | complete
  deriving DecidableEq, Repr

/-- An entry of the demand table (R165). -/
structure DemandEntry where
  tile  : Nat
  timer : Timer
  deriving DecidableEq, Repr

/-- The receiving side (9.1). -/
structure Receiver where
  state        : ReceiverState
  held         : Seq
  planRecords  : List (Nat × Region)
  seen         : Seq
  discard      : Bool
  buffer       : List RxItem
  applying     : Option Applying
  assembly     : Option Assembly
  fill         : Fill
  syncPending  : Bool
  quarantine   : List Nat
  demands      : List DemandEntry
  expired      : List Nat
  arrived      : Seq
  lossCredited : Seq
  appliedCount : Nat
  deriving DecidableEq, Repr

/-! ### The management unit (chapter 11) and the settings -/

/-- The EVT line (R180). -/
inductive EvtLine where
  | low
  | pulsing
  | guarding (due : Bool)
  deriving DecidableEq, Repr

/-- The last reply (R175). -/
structure Reply where
  status : Status
  data   : List Byte
  deriving DecidableEq, Repr

/-- The management unit, with the levels seen on the input lines. `inReset` is set while RESET_N is seen low (R183);
`straps` are the low three bits of the management target address. -/
structure Management where
  reply    : Reply
  latches  : BitVec 11
  tally    : Vector Nat 6
  evt      : EvtLine
  role     : Role
  identity : BitVec 64
  size     : Nat
  inReset  : Bool
  cue      : Bool
  pace     : Bool
  straps   : BitVec 3
  deriving DecidableEq, Repr

/-- The settings, each kept across warm and soft reset (R17, R53, R79, R93, R120, R135, R165, R177). -/
structure Settings where
  share           : Nat
  startDelay      : Nat
  settleDelay     : Nat
  holdBudget      : Nat
  audit           : Bool
  cueAbort        : AbortKind
  mirrorThreshold : Nat
  passLimit       : Nat
  nonConvergence  : NonConvergence
  stallRatio      : Nat
  step            : Nat
  ceiling         : Nat
  overflow        : Overflow
  stallLimit      : Nat
  applyTimeout    : Nat
  demandWait      : Nat
  cueMode         : CueMode
  paceEnable      : Bool
  eventMask       : BitVec 6
  alertMask       : BitVec 11
  linkEnable      : Bool
  blanking        : Blanking
  offTime         : OffTime
  relink          : Relink
  peerWait        : Nat
  deriving DecidableEq, Repr

/-- The whole part, and the queue of the commands that wait, first in first out. `map` is the tile map: dirty bits on
a sender, valid bits on a receiver (2.4, 2.5). -/
structure State where
  mem     : MemoryPath
  mon     : WriteMonitor
  tables  : Tables
  map     : TileMap
  camp    : Campaign
  conv    : Convergence
  eng     : CopyEngine
  aud     : Audit
  txq     : TxQueue
  link    : Link
  rx      : Receiver
  mgmt    : Management
  cfg     : Settings
  pending : List Instr
  deriving DecidableEq, Repr

/-! ### The state after a power-on reset -/

/-- The memory path after a reset that clears it (R18). -/
def MemoryPath.reset : MemoryPath where
  tags := Vector.replicate 16 ⟨false, none⟩
  queue := []
  holdList := []
  outstanding := []
  frameGrants := 0
  credit := 0
  nextId := 0
  nearOut := []

/-- The write monitor after a power-on or warm reset (R54). -/
def WriteMonitor.reset : WriteMonitor where
  regionHold := none
  drainHold := false
  passage := []
  stall := .stopped
  degrade := 0

/-- The tables at power-on (R25, R29). -/
def Tables.reset : Tables where
  regions := Vector.replicate 32 none
  bankA := []
  bankB := []
  active := .bankA
  pending := none

/-- The exit record at power-on (R78). -/
def ExitRecord.reset : ExitRecord where
  reason := .noReason
  number := 0
  lastPass := 0
  dirtyD := 0
  dirtyL := 0
  faults := 0
  degrade := 0

/-- The campaign controller at power-on (R80). -/
def Campaign.reset : Campaign where
  state := .idle
  number := 0
  breakFlag := false
  auditPassed := false
  tries := 0
  handoverSent := false
  passNumber := 0
  synced := false
  peerIdentity := 0
  peerSize := 0
  stalledFrom := .idle
  endReason := .noReason
  freezeList := []
  copyBegun := false
  shareOverride := false
  startDelay := none
  planWait := none
  settle := none
  holdBudget := none
  peerWait := none
  resumeWait := none
  resumeRepeat := none
  exit := ExitRecord.reset

/-- The pass statistics after a reset, the effective share being the share setting (R15, R81). -/
def Convergence.reset (share : Nat) : Convergence where
  k := 0
  w := 0
  s := 0
  sMark := false
  flat := 0
  lastPass := none
  share := share
  boost := false

/-- The copy engine after a reset (R112). -/
def CopyEngine.reset : CopyEngine where
  inFlight := []
  demandQueue := []
  faults := []
  sweep := ⟨0, 0⟩
  freezeWalk := 0
  drainWalk := ⟨0, 0⟩
  scanPointer := 0

/-- The audit after a reset (R174). -/
def Audit.reset : Audit where
  walk := ⟨0, 0⟩
  walkDone := false
  mismatch := 0
  failed := 0

/-- The transmit queue at power-on (R128). -/
def TxQueue.reset : TxQueue where
  queue := []
  backlog := []
  record := []
  nextSeq := 0
  credits := 0
  resync := none
  resyncMark := none
  nextEntry := 0

/-- The link at power-on: in DOWN, its quiet time just begun (R129, R147). DEDUCED (notes/assumptions/16.md). -/
def Link.reset : Link where
  state := .down
  quiet := some Config.quietTime
  silence := none
  blanking := none
  offTime := none
  hello := none
  burst := 0
  peer := none
  departure := false
  control := []
  reports := []
  creditTotal := 0
  creditTaken := 0
  sentTotal := 0
  keepaliveDue := false
  signal0 := false
  signal1 := false
  linkOut := []

/-- The receiving side at power-on (R166). -/
def Receiver.reset : Receiver where
  state := .idle
  held := 0
  planRecords := []
  seen := 0
  discard := false
  buffer := []
  applying := none
  assembly := none
  fill := .stopped
  syncPending := false
  quarantine := []
  demands := []
  expired := []
  arrived := 0
  lossCredited := 0
  appliedCount := 0

/-- The management unit at power-on (R175, R176, R180). -/
def Management.reset : Management where
  reply := ⟨.ok, []⟩
  latches := 0
  tally := Vector.replicate 6 0
  evt := .low
  role := .receiver
  identity := 0
  size := Config.tiles
  inReset := false
  cue := false
  pace := false
  straps := 0

/-- The settings at power-on. -/
def Settings.reset : Settings where
  share := 16
  startDelay := 0
  settleDelay := 0
  holdBudget := 2000
  audit := true
  cueAbort := .orderly
  mirrorThreshold := 256
  passLimit := 30
  nonConvergence := .forceMirror
  stallRatio := 224
  step := 8
  ceiling := 48
  overflow := .degrade
  stallLimit := 50
  applyTimeout := 5
  demandWait := 20
  cueMode := .off
  paceEnable := false
  eventMask := 0x3f#6
  alertMask := 0x7ff#11
  linkEnable := true
  blanking := .ms50
  offTime := .ms1
  relink := .auto
  peerWait := 30

/-- The part right after a power-on reset: a receiver in IDLE (R176, R183).
DESIGN CHOICE (notes/assumptions/15.md). -/
def State.reset : State where
  mem := MemoryPath.reset
  mon := WriteMonitor.reset
  tables := Tables.reset
  map := 0
  camp := Campaign.reset
  conv := Convergence.reset 16
  eng := CopyEngine.reset
  aud := Audit.reset
  txq := TxQueue.reset
  link := Link.reset
  rx := Receiver.reset
  mgmt := Management.reset
  cfg := Settings.reset
  pending := []

end Sys2Proof.Machine
end

