-- ==== Sys2Proof/Machine/Operands.lean ====
section
/-! DEFINITION. The operand forms: the codes of the named values (12.4), the ranges and clamps of numbers, and the
shape of near-port transfers (chapter 1). -/

namespace Sys2Proof

/-- A WRITE, a WRITE_LINE or a LOCK_WRITE (Transfer kinds). -/
def XferKind.isWrite : XferKind → Bool
  | .write | .writeLine | .lockWrite => true
  | .read | .readLine | .lockRead => false

/-- A READ_LINE or a WRITE_LINE. -/
def XferKind.isLine : XferKind → Bool
  | .readLine | .writeLine => true
  | .read | .write | .lockRead | .lockWrite => false

end Sys2Proof

namespace Sys2Proof.Machine

/-! ### Code tables of 12.4 -/

def Role.code : Role → Byte
  | .sender => 1
  | .receiver => 2

def roleOf (b : Byte) : Option Role :=
  match b.toNat with
  | 1 => some .sender
  | 2 => some .receiver
  | _ => none

def SenderState.code : SenderState → Byte
  | .idle => 0
  | .armed => 1
  | .delay => 2
  | .plan => 3
  | .sweep => 4
  | .settle => 5
  | .mirror => 6
  | .audit => 7
  | .insync => 8
  | .freeze => 9
  | .drain => 10
  | .handedOver => 11
  | .stalled => 12
  | .ending => 13

def ReceiverState.code : ReceiverState → Byte
  | .idle => 0
  | .receiving => 1
  | .insync => 2
  | .live => 3

def Policy.code : Policy → Byte
  | .copy => 0
  | .late => 1
  | .zero => 2
  | .skip => 3

def policyOf (b : Byte) : Option Policy :=
  match b.toNat with
  | 0 => some .copy
  | 1 => some .late
  | 2 => some .zero
  | 3 => some .skip
  | _ => none

def Bank.code : Bank → Byte
  | .bankA => 0
  | .bankB => 1

def bankOf (b : Byte) : Option Bank :=
  match b.toNat with
  | 0 => some .bankA
  | 1 => some .bankB
  | _ => none

/-- A boolean argument: 00h or 01h, anything else is outside its set (R185). -/
def boolOf (b : Byte) : Option Bool :=
  match b.toNat with
  | 0 => some false
  | 1 => some true
  | _ => none

def boolByte (b : Bool) : Byte := if b then 1 else 0

def ExitReason.code : ExitReason → Byte
  | .noReason => 0x00
  | .complete => 0x01
  | .handoverUnconfirmed => 0x02
  | .abortCommand => 0x03
  | .abortCue => 0x04
  | .notConverged => 0x05
  | .auditFailed => 0x06
  | .linkLost => 0x07
  | .peerTimeout => 0x08
  | .peerChanged => 0x09
  | .peerSilent => 0x0a
  | .sizeMismatch => 0x0b
  | .faultListFull => 0x0c
  | .warmReset => 0x0d
  | .softReset => 0x0e

def Status.code : Status → Byte
  | .ok => 0x00
  | .clamped => 0x01
  | .busy => 0x02
  | .role => 0x03
  | .locked => 0x04
  | .overlap => 0x05
  | .range => 0x06
  | .noPeer => 0x07
  | .empty => 0x08
  | .size => 0x09
  | .badCommand => 0x0a

def AbortKind.code : AbortKind → Byte
  | .immediate => 0
  | .orderly => 1

def abortKindOf (b : Byte) : Option AbortKind :=
  match b.toNat with
  | 0 => some .immediate
  | 1 => some .orderly
  | _ => none

def NonConvergence.code : NonConvergence → Byte
  | .forceMirror => 0
  | .endCampaign => 1

def nonConvergenceOf (b : Byte) : Option NonConvergence :=
  match b.toNat with
  | 0 => some .forceMirror
  | 1 => some .endCampaign
  | _ => none

def Overflow.code : Overflow → Byte
  | .degrade => 0
  | .stall => 1

def overflowOf (b : Byte) : Option Overflow :=
  match b.toNat with
  | 0 => some .degrade
  | 1 => some .stall
  | _ => none

def CueMode.code : CueMode → Byte
  | .off => 0
  | .start => 1
  | .startAbort => 2
  | .startBreak => 3

def cueModeOf (b : Byte) : Option CueMode :=
  match b.toNat with
  | 0 => some .off
  | 1 => some .start
  | 2 => some .startAbort
  | 3 => some .startBreak
  | _ => none

def Relink.code : Relink → Byte
  | .latched => 0
  | .auto => 1

def relinkOf (b : Byte) : Option Relink :=
  match b.toNat with
  | 0 => some .latched
  | 1 => some .auto
  | _ => none

def Blanking.code : Blanking → Byte
  | .ms0 => 0
  | .ms10 => 1
  | .ms50 => 2
  | .ms200 => 3

def blankingOf (b : Byte) : Option Blanking :=
  match b.toNat with
  | 0 => some .ms0
  | 1 => some .ms10
  | 2 => some .ms50
  | 3 => some .ms200
  | _ => none

/-- The blanking time in µs (R135). -/
def Blanking.time : Blanking → Nat
  | .ms0 => 0
  | .ms10 => 10000
  | .ms50 => 50000
  | .ms200 => 200000

def OffTime.code : OffTime → Byte
  | .us500 => 0
  | .ms1 => 1
  | .ms2 => 2
  | .ms4 => 3

def offTimeOf (b : Byte) : Option OffTime :=
  match b.toNat with
  | 0 => some .us500
  | 1 => some .ms1
  | 2 => some .ms2
  | 3 => some .ms4
  | _ => none

/-- The off-time in µs (R135). -/
def OffTime.time : OffTime → Nat
  | .us500 => 500
  | .ms1 => 1000
  | .ms2 => 2000
  | .ms4 => 4000

def LinkState.code : LinkState → Byte
  | .down => 0
  | .training => 1
  | .blanking => 2
  | .up => 3
  | .cooldown => 4

/-- The place of an outcome in the list of R92, the argument of the free value `Config.passOutcomeCode`. -/
def PassOutcome.index : PassOutcome → Nat
  | .continues => 0
  | .boost => 1
  | .flat => 2
  | .mirror => 3
  | .forced => 4
  | .notConverged => 5
  | .closed => 6

/-! ### Numbers -/

/-- The nearest value within a range (R175). -/
def clampTo (lo hi n : Nat) : Nat := max lo (min hi n)

/-- The low k bytes of a number, least significant byte first (12.1). -/
def leBytes : Nat → Nat → List Byte
  | 0, _ => []
  | k + 1, n => BitVec.ofNat 8 n :: leBytes k (n / 256)

/-- The number whose bytes, least significant first, are given (12.1). -/
def leNat : List Byte → Nat
  | [] => 0
  | b :: bs => b.toNat + 256 * leNat bs

/-! ### Transfers (chapter 1) -/

/-- The tile of a byte address (1.5). -/
def tileOf (a : Addr) : Nat := a.toNat / Config.tileBytes

/-- The shape rules whose breach makes a transfer malformed (R2). -/
def malformed (kind : XferKind) (addr : Addr) (mask : Mask) : Bool :=
  if kind.isLine then addr.toNat % 64 != 0
  else addr.toNat % 16 != 0 || mask == 0

/-- The bits of a beat that a byte mask selects. -/
def maskBits (mask : Mask) : Line :=
  (List.range 16).foldl (fun acc i => if mask.getLsbD i then acc ||| (0xff#512 <<< (8 * i)) else acc) 0

/-- The data of a MIRROR frame: a line whole, or a beat with its unselected bytes 00h (12.2). -/
def mirrorData (line : Bool) (mask : Mask) (data : Line) : Line :=
  if line then data else data &&& maskBits mask

/-- The address of line n of a tile. -/
def lineAddr (tile line : Nat) : Addr :=
  BitVec.ofNat 32 (tile * Config.tileBytes + line * Config.lineBytes)

/-- Line j of a chunk's data. -/
def chunkLine (data : ChunkData) (j : Nat) : Line := data.extractLsb' (512 * j) 512

/-- The data of a chunk, from its lines in ascending address order. -/
def joinLines : List Line → Nat
  | [] => 0
  | l :: ls => l.toNat + 2 ^ 512 * joinLines ls

end Sys2Proof.Machine
end

