-- ==== Sys2Proof/Machine/Flags.lean ====
section
/-! DEFINITION. The latched conditions (R179), the events and the EVT line (R180), and the levels of SYNC and ALERT
(R181). -/

namespace Sys2Proof.Machine

/-- The bit of a latched condition in every mask (12.4). -/
def Latch.bit : Latch → Nat
  | .linkBurst => 0
  | .linkLost => 1
  | .mirrorDegraded => 2
  | .holdExpired => 3
  | .handoverFailed => 4
  | .writeRefused => 5
  | .demandTimeout => 6
  | .farFault => 7
  | .lockBroken => 8
  | .cueIgnored => 9
  | .auditMismatch => 10

/-- The bit of an event in the event mask, and its place in the event tally (12.4). -/
def Event.bit : Event → Fin 6
  | .campaignStart => 0
  | .passEnd => 1
  | .regionEnd => 2
  | .insyncEnter => 3
  | .insyncLeave => 4
  | .campaignEnd => 5

/-- Sets a latched condition (R179). -/
def State.latch (s : State) (l : Latch) : State :=
  { s with mgmt.latches := s.mgmt.latches ||| BitVec.twoPow 11 l.bit }

/-- Whether a condition is latched. -/
def State.latched (s : State) (l : Latch) : Bool := s.mgmt.latches.getLsbD l.bit

/-- What a selected event does to the EVT line (R180). -/
def EvtLine.select : EvtLine → EvtLine
  | .low => .pulsing
  | .pulsing => .pulsing
  | .guarding _ => .guarding true

/-- The management unit after an event is raised (R180). -/
def Management.raise (m : Management) (mask : BitVec 6) (e : Event) : Management :=
  { m with
    tally := m.tally.set e.bit (satAdd Config.tallyLimit m.tally[e.bit] 1)
    evt := if mask.getLsbD e.bit then m.evt.select else m.evt }

/-- Raises an event (R180). -/
def State.raise (s : State) (e : Event) : State :=
  { s with mgmt := s.mgmt.raise s.cfg.eventMask e }

/-- The SYNC line is high exactly while the sender is in INSYNC or the receiver in INSYNC or LIVE (R181). -/
def State.syncLevel (s : State) : Bool :=
  match s.mgmt.role with
  | .sender => s.camp.state == .insync
  | .receiver => s.rx.state == .insync || s.rx.state == .live

/-- ALERT is high while a condition that the alert mask names is latched, and low after a reset, which clears every condition
(R181). DEDUCED (notes/assumptions/48.md). -/
def State.alertLevel (s : State) : Bool := (s.mgmt.latches &&& s.cfg.alertMask) != 0

/-- EVT is high during a pulse (R180). -/
def State.evtLevel (s : State) : Bool := s.mgmt.evt == .pulsing

end Sys2Proof.Machine
end

