-- ==== Sys2Proof/Machine/Ops.lean ====
section
/-! DEFINITION. The operations that several blocks share: the tile map's bits and counts, regions, banks and scope,
the near port's terminations, replies, entry to a campaign or receiver state, the transmit queue's joins, and the
reports of the receiver. -/

namespace Sys2Proof

/-- An APPLIED report. -/
def Report.isApplied : Report → Bool
  | .applied _ => true
  | _ => false

/-- A CREDIT report. -/
def Report.isCredit : Report → Bool
  | .credit _ => true
  | _ => false

end Sys2Proof

namespace Sys2Proof.Machine

/-! ### Tile map bits (2.4, 2.5) -/

/-- The map with the bit of tile t set. -/
def setBit (m : TileMap) (t : Nat) : TileMap := m ||| BitVec.twoPow 131072 t

/-- The map with the bit of tile t clear. -/
def clearBit (m : TileMap) (t : Nat) : TileMap := m &&& ~~~ (BitVec.twoPow 131072 t)

/-- The map with exactly the bits of `count` tiles from `base` set. -/
def runMask (base count : Nat) : TileMap := BitVec.ofNat 131072 (2 ^ count - 1) <<< base

/-- The map with exactly the bits of the listed tiles set. -/
def listMask (ts : List Nat) : TileMap := ts.foldl setBit 0

/-- How many of the bits 0 to 2^k - 1 of m are set. -/
def countBits : Nat → Nat → Nat
  | 0, m => m % 2
  | k + 1, m =>
    if m = 0 then 0
    else if m = 2 ^ 2 ^ (k + 1) - 1 then 2 ^ (k + 1)
    else countBits k (m % 2 ^ 2 ^ k) + countBits k (m / 2 ^ 2 ^ k)

/-- The number of tiles whose bit is set. -/
def countTiles (m : TileMap) : Nat := countBits 17 m.toNat

/-- The lowest set bit among the bits 0 to 2^k - 1 of m, where one is set. -/
def lowestBit : Nat → Nat → Nat
  | 0, _ => 0
  | k + 1, m =>
    if m % 2 ^ 2 ^ k = 0 then 2 ^ k + lowestBit k (m / 2 ^ 2 ^ k)
    else lowestBit k (m % 2 ^ 2 ^ k)

/-- The first tile at or above `start` whose bit is set. -/
def firstTile (m : TileMap) (start : Nat) : Option Nat :=
  let high := m.toNat >>> start
  if high = 0 then none else some (start + lowestBit 17 high)

/-! ### Regions, banks and scope (chapter 2) -/

/-- The tiles of a region. -/
def Region.mask (r : Region) : TileMap := runMask r.base r.count

/-- Whether a tile lies in a region. -/
def Region.has (r : Region) (t : Nat) : Bool := decide (r.base ≤ t ∧ t < r.base + r.count)

/-- Region entry n, if it is valid. -/
def Tables.region (tb : Tables) (n : Nat) : Option Region := (tb.regions[n]?).join

/-- The entries of a bank, in order. -/
def Tables.entries (tb : Tables) : Bank → List Nat
  | .bankA => tb.bankA
  | .bankB => tb.bankB

/-- The valid regions a bank names, with their numbers, in order of first occurrence (2.3). -/
def Tables.validRegions (tb : Tables) (b : Bank) : List (Nat × Region) :=
  ((tb.entries b).eraseDups).filterMap fun n => (tb.region n).map fun r => (n, r)

/-- The valid region a tile lies in (R20), the one of lowest number where the records of a plan share the tile. DEDUCED
(notes/assumptions/54.md). -/
def Tables.regionAt (tb : Tables) (t : Nat) : Option Region :=
  tb.regions.toList.findSome? fun e => e.filter fun r => r.has t

/-- The policy of a tile: that of its region, SKIP in none (R20). -/
def Tables.policyAt (tb : Tables) (t : Nat) : Policy :=
  match tb.regionAt t with
  | some r => r.policy
  | none => .skip

/-- A campaign runs in every sender state other than IDLE and ARMED (2.2). -/
def State.runs (s : State) : Bool :=
  s.mgmt.role == .sender && s.camp.state != .idle && s.camp.state != .armed

/-- Scope: the valid regions named by the active bank while a campaign runs, in order of first occurrence (2.3). -/
def State.scope (s : State) : List (Nat × Region) :=
  if s.runs then s.tables.validRegions s.tables.active else []

/-- The locked set: every region number named by the active or the pending bank (2.2). -/
def Tables.lockedSet (tb : Tables) : List Nat :=
  tb.entries tb.active ++ (match tb.pending with
    | some b => tb.entries b
    | none => [])

/-- The tiles of the listed regions that have a given policy. -/
def policyMask (rs : List (Nat × Region)) (p : Policy) : TileMap :=
  rs.foldl (fun m r => if r.2.policy = p then m ||| r.2.mask else m) 0

/-- Whether a tile is a scope tile (2.3). -/
def State.inScope (s : State) (t : Nat) : Bool := s.scope.any fun r => r.2.has t

/-- Whether a tile is a scope tile of a region with the given policy. -/
def State.scopeIs (s : State) (p : Policy) (t : Nat) : Bool :=
  s.scope.any fun r => r.2.policy == p && r.2.has t

/-- Whether a tile is a scope COPY or LATE tile (3.1). -/
def State.tracked (s : State) (t : Nat) : Bool := s.scopeIs .copy t || s.scopeIs .late t

/-- Whether a tile's bit is set: dirty on a sender, valid on a receiver. -/
def State.bit (s : State) (t : Nat) : Bool := s.map.getLsbD t

/-- Whether a tile has an entry in the in-flight table. -/
def State.isInFlight (s : State) (t : Nat) : Bool := s.eng.inFlight.any fun e => e.tile == t

/-- Whether a tile is QUARANTINED in the fault list (6.4). -/
def State.quarantined (s : State) (t : Nat) : Bool :=
  s.eng.faults.any fun f => f.quarantined && f.tile == t

/-- A clean tile: its bit is clear and it is not in flight (2.4). -/
def State.clean (s : State) (t : Nat) : Bool := !s.bit t && !s.isInFlight t

/-- The quarantined tiles. -/
def State.quarantineMask (s : State) : TileMap :=
  listMask ((s.eng.faults.filter fun f => f.quarantined).map fun f => f.tile)

/-- The tiles in flight. -/
def State.inFlightMask (s : State) : TileMap := listMask (s.eng.inFlight.map fun e => e.tile)

/-- The dirty scope tiles of a policy, quarantined tiles aside: the tiles that D and L count (R33). -/
def State.dirtyMask (s : State) (p : Policy) : TileMap :=
  s.map &&& policyMask s.scope p &&& ~~~ s.quarantineMask

/-- The live count D (R33). -/
def State.countD (s : State) : Nat := countTiles (s.dirtyMask .copy)

/-- The live count L (R33). -/
def State.countL (s : State) : Nat := countTiles (s.dirtyMask .late)

/-! ### Near-port terminations (R4, R5) -/

/-- The tag's record. -/
def State.tagRecord (s : State) (tag : Fin 16) : TagRecord := s.mem.tags[tag]

/-- The near port gives a termination. -/
def State.answer (s : State) (tag : Fin 16) (term : Term) : State :=
  { s with mem.nearOut := s.mem.nearOut ++ [⟨tag, term⟩] }

/-- Replaces a tag's record. -/
def State.setTag (s : State) (tag : Fin 16) (r : TagRecord) : State :=
  { s with mem.tags := s.mem.tags.set tag r }

/-- Empties a tag's lock record, which ends its pair hold (R11, R12). -/
def State.clearLock (s : State) (tag : Fin 16) : State :=
  s.setTag tag { s.tagRecord tag with lock := none }

/-- Whether at least one pair hold runs (R12). -/
def State.pairHold (s : State) : Bool := s.mem.tags.toList.any fun r => r.lock.isSome

/-- Puts a transfer at the tail of the pass-through queue and into the passage record (R7, R44). -/
def State.forward (s : State) (x : Transfer) : State :=
  { s with
    mem.queue := s.mem.queue ++ [x]
    mon.passage := s.mon.passage ++ [⟨x.tag, x.kind, tileOf x.addr⟩] }

/-- A release: the holds end, and with them the share override of FREEZE; every held transfer joins the pass-through
queue in acceptance order (R9, R16, R39, R40). -/
def State.release (s : State) : State :=
  let s1 := s.mem.holdList.foldl State.forward s
  { s1 with
    mem.holdList := []
    mon.regionHold := none
    mon.drainHold := false
    camp.shareOverride := false
    camp.copyBegun := false }

/-! ### Replies (R175) -/

/-- Stores the last reply. -/
def State.reply (s : State) (status : Status) (data : List Byte) : State :=
  { s with mgmt.reply := ⟨status, data⟩ }

/-! ### The control list and HELLO (R137, R140) -/

/-- Whether two control list frames are of one kind. -/
def Control.sameKind : Control → Control → Bool
  | .hello, .hello => true
  | .beginCampaign _ _ _, .beginCampaign _ _ _ => true
  | .resume _ _, .resume _ _ => true
  | .abandon _ _, .abandon _ _ => true
  | _, _ => false

/-- Adds a frame to the control list: in the place of a waiting one of its kind, else at the end (R137). -/
def controlAdd (c : Control) (l : List Control) : List Control :=
  if l.any c.sameKind then l.map fun d => if c.sameKind d then c else d else l ++ [c]

/-- Raises a frame of the control list. -/
def State.raiseControl (s : State) (c : Control) : State :=
  { s with link.control := controlAdd c s.link.control }

/-- Whether the link is UP or in COOLDOWN. -/
def LinkState.isOpen : LinkState → Bool
  | .up | .cooldown => true
  | .down | .training | .blanking => false

/-- Raises the HELLO that a change of one of its first five fields calls for, in UP and COOLDOWN (R140). -/
def State.helloOnChange (s : State) : State :=
  if s.link.state.isOpen then s.raiseControl .hello else s

/-- The sender enters a campaign state; a change raises HELLO (R140). -/
def State.enter (s : State) (st : SenderState) : State :=
  if s.camp.state = st then s else State.helloOnChange { s with camp.state := st }

/-- The SYNC line in a receiver state (R181). -/
def ReceiverState.synced : ReceiverState → Bool
  | .insync | .live => true
  | .idle | .receiving => false

/-- The event of a receiver transition: INSYNC_ENTER when SYNC rises, INSYNC_LEAVE when it falls (R148). -/
def State.syncEvent (s : State) (before after : ReceiverState) : State :=
  match before.synced, after.synced with
  | false, true => s.raise .insyncEnter
  | true, false => s.raise .insyncLeave
  | _, _ => s

/-- The receiver enters a state; a change raises HELLO and moves the SYNC line with its event (R140, R148). -/
def State.enterReceiver (s : State) (st : ReceiverState) : State :=
  if s.rx.state = st then s
  else (State.helloOnChange { s with rx.state := st }).syncEvent s.rx.state st

/-- The receiver comes to hold a campaign number; a change raises HELLO (R140). -/
def State.setHeld (s : State) (n : Seq) : State :=
  if s.rx.held = n then s else State.helloOnChange { s with rx.held := n }

/-! ### Joining the transmit queue (R113, R114) -/

/-- The frames of an entry (7.1). -/
def TxBody.frames : TxBody → Nat
  | .tile _ => Config.tileChunks
  | .tileCut _ n => n + 1
  | .plan rs => rs.length + 1
  | .mirror _ _ _ _ _ _ | .digest _ _ | .syncMark _ | .quarantine _ | .handover => 1

/-- A SYNC or UNSYNC mark. -/
def TxBody.isSyncMark : TxBody → Bool
  | .syncMark _ => true
  | _ => false

/-- Whether the queue has a free entry. -/
def TxQueue.hasRoom (q : TxQueue) : Bool := decide (q.queue.length < Config.queueLimit)

/-- Appends an entry at the tail. -/
def TxQueue.append (q : TxQueue) (b : TxBody) : TxQueue :=
  { q with queue := q.queue ++ [⟨q.nextEntry, b, 0⟩], nextEntry := q.nextEntry + 1 }

/-- Adds to the mark backlog; a sync mark takes the place of one that waits there (R114). -/
def backlogAdd (b : TxBody) (l : List TxBody) : List TxBody :=
  if b.isSyncMark && l.any TxBody.isSyncMark then l.map fun c => if c.isSyncMark then b else c else l ++ [b]

/-- A DIGEST entry or a mark falls due: it joins the queue, or the mark backlog when the queue is full or items wait
there before it (R114). -/
def TxQueue.join (q : TxQueue) (b : TxBody) : TxQueue :=
  if q.hasRoom && q.backlog.isEmpty then q.append b else { q with backlog := backlogAdd b q.backlog }

/-- Backlog items join at the tail while places are free (R114). -/
def TxQueue.refill (q : TxQueue) : TxQueue :=
  let room := Config.queueLimit - q.queue.length
  (q.backlog.take room).foldl TxQueue.append { q with backlog := q.backlog.drop room }

/-- An entry leaves the queue; the entries behind it close up and the backlog joins (R113, R114). -/
def TxQueue.remove (q : TxQueue) (id : Nat) : TxQueue :=
  TxQueue.refill { q with queue := q.queue.filter fun e => e.id != id }

/-- Empties the queue, the backlog, the sent-frame record and the waiting RESYNC and resync mark (R126 to R128). -/
def TxQueue.emptied (q : TxQueue) : TxQueue :=
  { q with queue := [], backlog := [], record := [], resync := none, resyncMark := none }

/-- A mark or DIGEST entry falls due. -/
def State.queueMark (s : State) (b : TxBody) : State := { s with txq := s.txq.join b }

/-! ### The share (R15, R16) -/

/-- The share in force: 64 while a held region is copied in FREEZE, else the effective share (R15, R16). -/
def State.shareInForce (s : State) : Nat := if s.camp.shareOverride then 64 else s.conv.share

/-- The effective share returns to the setting (R15). -/
def State.resetShare (s : State) : State :=
  { s with conv.share := s.cfg.share, conv.boost := false }

/-! ### The report list (R138, R142) -/

/-- Whether the report list has room for n more frames. -/
def Link.hasRoom (l : Link) (n : Nat) : Bool := decide (l.reports.length + n ≤ Config.reportLimit)

/-- Adds n to a waiting CREDIT; a merged count does not exceed 128 (R138). -/
def mergeCredit (n : Nat) (r : Report) : Report :=
  match r with
  | .credit m => .credit (BitVec.ofNat 8 (min Config.creditLimit (m.toNat + n)))
  | other => other

/-- The receiver returns n credits: merged into a waiting CREDIT, placed in the list, or, where the list is full,
added to the credit total (R138, R163). Nothing is handed while the link is neither UP nor in COOLDOWN (R155). -/
def Link.giveCredit (l : Link) (n : Nat) : Link :=
  if n = 0 || !l.state.isOpen then l
  else if l.reports.any Report.isCredit then { l with reports := l.reports.map (mergeCredit n) }
  else if l.hasRoom 1 then { l with reports := l.reports ++ [.credit (BitVec.ofNat 8 (min Config.creditLimit n))] }
  else { l with creditTotal := l.creditTotal + BitVec.ofNat 16 n }

/-- A report other than CREDIT is handed to the link: a full list takes no further report, and an APPLIED takes a waiting
one out of a list that is not full (R138). DEDUCED (notes/assumptions/34.md). Nothing is handed while the link is neither
UP nor in COOLDOWN (R155). -/
def Link.hand (l : Link) (r : Report) : Link :=
  if l.state.isOpen && l.hasRoom 1 then
    { l with reports := (if r.isApplied then l.reports.filter fun q => !q.isApplied else l.reports) ++ [r] }
  else l

/-- The receiver returns n credits. -/
def State.giveCredit (s : State) (n : Nat) : State := { s with link := s.link.giveCredit n }

/-- The receiver hands a report. -/
def State.hand (s : State) (r : Report) : State := { s with link := s.link.hand r }

/-! ### Internal transfers -/

/-- The internal transfers outstanding at the far port (R6). -/
def MemoryPath.internal (m : MemoryPath) : Nat :=
  (m.outstanding.filter fun x => match x.owner with
    | .pass _ => false
    | _ => true).length

/-- Whether the far port may take one more internal transfer (R6). -/
def MemoryPath.internalRoom (m : MemoryPath) : Bool := decide (m.internal < Config.internalLimit)

/-- The transfers whose owner satisfies p are abandoned: their terminations will be discarded (R6, R107). -/
def State.abandonOwned (s : State) (p : Owner → Bool) : State :=
  { s with mem.outstanding := s.mem.outstanding.map fun x => if p x.owner then { x with owner := .abandoned } else x }

/-- The far port issues a transfer (R6). -/
def State.issue (s : State) (owner : Owner) (kind : XferKind) (addr : Addr) (mask : Mask) (data : Line) : State :=
  { s with
    mem.outstanding := s.mem.outstanding ++ [⟨s.mem.nextId, owner, kind, addr, mask, data⟩]
    mem.nextId := s.mem.nextId + 1 }

/-! ### RETRY counts (R103, R152, R158) -/

/-- The RETRY answers in a row of item n. -/
def retryCount (rs : List (Nat × Nat)) (n : Nat) : Nat :=
  match rs.find? fun r => r.1 == n with
  | some r => r.2
  | none => 0

/-- The counts with item n's set to k; a count of 0 is not listed. -/
def setRetry (rs : List (Nat × Nat)) (n k : Nat) : List (Nat × Nat) :=
  let others := rs.filter fun r => r.1 != n
  if k = 0 then others else others ++ [(n, k)]

end Sys2Proof.Machine
end

