-- ==== Sys2Proof/Machine/Tracking.lean ====
section
/-! DEFINITION. Set requests on the tile map and what follows from them, the beginning of a pass with its bank switch,
and the tracking effect of a write at its far-port grant (chapters 2, 3 and 4). -/

namespace Sys2Proof.Machine

/-! ### Set requests (R30, R32) -/

/-- A set request: the bit becomes set, and a clear→set transition of a scope COPY tile counts in W (R30, R32, R83). -/
def State.setDirty (s : State) (t : Nat) : State :=
  if s.bit t then s
  else
    let w := if s.scopeIs .copy t then satAdd Config.passCounterLimit s.conv.w 1 else s.conv.w
    { s with map := setBit s.map t, conv.w := w }

/-- Marks the in-flight entry of a tile redirtied. -/
def State.redirty (s : State) (t : Nat) : State :=
  { s with eng.inFlight := s.eng.inFlight.map fun e => if e.tile = t then { e with redirtied := true } else e }

/-! ### Passes (R28, R61, R65) -/

/-- A pending bank switches in: the tiles newly in scope are set dirty without a report to W, the bank becomes active,
and the new plan is queued (R28). -/
def State.switchBank (s : State) : State :=
  match s.tables.pending with
  | none => s
  | some bank =>
    let old := s.scope.map fun r => r.1
    let plan := s.tables.validRegions bank
    let entered := plan.filter fun r => !old.contains r.1
    State.queueMark
      { s with
        map := s.map ||| policyMask entered .copy ||| policyMask entered .late
        tables.active := bank
        tables.pending := none }
      (.plan plan)

/-- A pass begins in the given state: the pass number rises, a pending bank switches in, the sweep walk stands at
entry 0 (R61). -/
def State.beginPass (s : State) (st : SenderState) : State :=
  let s1 := s.enter st
  let s2 := State.switchBank { s1 with camp.passNumber := satAdd Config.wordLimit s1.camp.passNumber 1 }
  { s2 with eng.sweep := ⟨0, 0⟩ }

/-- The sync state becomes UNSYNC and its mark is queued (R65). -/
def State.queueUnsync (s : State) : State :=
  State.queueMark { s with camp.synced := false } (.syncMark false)

/-- INSYNC falls back to MIRROR (R65). -/
def State.leaveInsync (s : State) : State :=
  ((s.raise .insyncLeave).queueUnsync).beginPass .mirror

/-- INSYNC is entered from MIRROR or AUDIT (R65). -/
def State.enterInsync (s : State) : State :=
  State.raise (State.queueMark { s.enter .insync with camp.synced := true } (.syncMark true)) .insyncEnter

/-- A set request outside a link loss: it also takes INSYNC to MIRROR when it makes a scope COPY tile dirty that is not
quarantined (R65). -/
def State.markDirty (s : State) (t : Nat) : State :=
  let s1 := s.setDirty t
  if s.camp.state = .insync && s.runs && !s.bit t && s.scopeIs .copy t && !s.quarantined t then s1.leaveInsync else s1

/-! ### The tracking effect of a write (R45 to R52) -/

/-- The tracking categories (R45). -/
inductive Category where
  | untracked | dirtying | mirroring
  deriving DecidableEq, Repr

/-- The tracking category of a sender state (R45). -/
def category : SenderState → Category
  | .idle | .armed | .handedOver => .untracked
  | .delay | .plan | .sweep | .settle | .stalled | .ending => .dirtying
  | .mirror | .audit | .insync | .freeze | .drain => .mirroring

/-- The tracking category that stands. -/
def State.category (s : State) : Category :=
  if s.mgmt.role = .sender then Machine.category s.camp.state else .untracked

/-- Whether a write granted now would be due to be mirrored (R47). -/
def State.mirrorDue (s : State) (x : Transfer) : Bool :=
  let t := tileOf x.addr
  x.kind.isWrite && s.category == .mirroring && s.tracked t && s.clean t && !s.quarantined t

/-- DEGRADE treatment (R51). -/
def State.degrade (s : State) (t : Nat) : State :=
  State.markDirty
    { s.latch .mirrorDegraded with mon.degrade := satAdd Config.wordLimit s.mon.degrade 1 } t

/-- The MIRROR entry of a write, PENDING (R47). -/
def mirrorBody (x : Transfer) : TxBody :=
  .mirror x.tag false x.addr x.kind.isLine (if x.kind.isLine then 0 else x.mask)
    (mirrorData x.kind.isLine x.mask x.data)

/-- A tracked write in a dirtying state (R46). -/
def State.trackDirtying (s : State) (t : Nat) : State := (s.markDirty t).redirty t

/-- A tracked write in a mirroring state (R47, R48, R51). -/
def State.trackMirroring (s : State) (x : Transfer) : State :=
  let t := tileOf x.addr
  if s.isInFlight t then (s.markDirty t).redirty t
  else if s.quarantined t then s.markDirty t
  else if s.bit t then s
  else if s.txq.hasRoom then { s with txq := s.txq.append (mirrorBody x) }
  else s.degrade t

/-- The tracking effect of a transfer at its far-port grant (R45, R49). -/
def State.track (s : State) (x : Transfer) : State :=
  let t := tileOf x.addr
  if x.kind.isWrite && s.tracked t then
    match s.category with
    | .untracked => s
    | .dirtying => s.trackDirtying t
    | .mirroring => s.trackMirroring x
  else s

/-- Whether the head of the pass-through queue is kept back by the STALL policy (R52). -/
def State.keptBack (s : State) : Bool :=
  match s.mem.queue with
  | [] => false
  | x :: _ =>
    s.cfg.overflow == .stall && s.cfg.stallLimit != 0 && s.mon.stall != .expired && s.mirrorDue x
      && !s.txq.hasRoom

/-- The arbiter's test of the head: the stall timer starts when the head is first kept back (R52). -/
def State.testHead (s : State) : State :=
  if s.keptBack && s.mon.stall == .stopped then { s with mon.stall := .running } else s

end Sys2Proof.Machine
end

