-- ==== Sys2Proof/Machine/CampaignOps.lean ====
section
/-! DEFINITION. The campaign controller's shared operations: start and plan exchange, the ends of a campaign, entry to
HANDED_OVER, link loss, the relink decision, the FREEZE and DRAIN entries, and strikes (chapters 4 and 6). -/

namespace Sys2Proof.Machine

/-! ### Abandonment (R107) -/

/-- The in-flight entry of a tile leaves the table; terminations of its outstanding reads will be discarded (R107). -/
def State.abandonEntry (s : State) (t : Nat) : State :=
  State.abandonOwned
    { s with eng.inFlight := s.eng.inFlight.filter fun e => e.tile != t }
    fun o => match o with
      | .copy u _ => u == t
      | _ => false

/-- Every in-flight entry is abandoned (R74, R75, R107). -/
def State.abandonAll (s : State) : State :=
  State.abandonOwned { s with eng.inFlight := [] } fun o => match o with
    | .copy _ _ => true
    | _ => false

/-! ### Ends (R71, R74, R78) -/

/-- The exit record for a reason, with the counts as they stand (R78). -/
def State.exitRecord (s : State) (reason : ExitReason) : ExitRecord where
  reason := reason
  number := s.camp.number
  lastPass := s.camp.passNumber
  dirtyD := s.countD
  dirtyL := s.countL
  faults := s.eng.faults.length
  degrade := s.mon.degrade

/-- Writes the exit record (R78). -/
def State.writeExit (s : State) (reason : ExitReason) : State :=
  { s with camp.exit := s.exitRecord reason }

/-- Every campaign timer stops. -/
def Campaign.stopTimers (c : Campaign) : Campaign :=
  { c with
    startDelay := none
    planWait := none
    settle := none
    holdBudget := none
    peerWait := none
    resumeWait := none
    resumeRepeat := none }

/-- Step 6 of the closing steps: the share returns, the pending bank and the break flag go, the timers stop, and the
share override of FREEZE ends (R15, R16, R28, R66, R74). -/
def State.settleEnd (s : State) : State :=
  let s1 := s.resetShare
  { s1 with
    tables.pending := none
    camp := { s1.camp.stopTimers with breakFlag := false, shareOverride := false, copyBegun := false } }

/-- The sender enters IDLE, where the tile map is cleared (R30). -/
def State.enterIdle (s : State) : State := { s.enter .idle with map := 0 }

/-- The queue, the in-flight table and the demand queue are emptied (R71, R74, R111, R127). -/
def State.dropWork (s : State) : State :=
  let s1 := State.abandonAll { s with txq := s.txq.emptied }
  { s1 with eng.demandQueue := [] }

/-- The mismatch count of an audit pass that an end of the campaign leaves unfinished is dropped; AUDIT_FAILED comes at the
end of a pass and keeps it (R172, R174). DEDUCED (notes/assumptions/49.md). -/
def State.dropMismatches (s : State) (reason : ExitReason) : State :=
  { s with aud.mismatch := if reason = .auditFailed then s.aud.mismatch else 0 }

/-- The closing steps (R74). -/
def State.close (s : State) (reason : ExitReason) : State :=
  let s1 := (s.dropWork.release).dropMismatches reason
  let s2 := if s1.link.state = .up then s1.raiseControl (.abandon reason Config.abandonCopies) else s1
  (((s2.writeExit reason).raise .campaignEnd).settleEnd).enterIdle

/-- The closing steps with a reason, or in ENDING with the reason already recorded (R73, R109). -/
def State.endWith (s : State) (reason : ExitReason) : State :=
  s.close (if s.camp.state = .ending then s.camp.endReason else reason)

/-- A held entry is terminated FAULT, which empties the lock record of a closing LOCK_WRITE (R10, R43). -/
def State.failHeld (s : State) (x : Transfer) : State :=
  let lock := if x.kind = .lockWrite then none else (s.tagRecord x.tag).lock
  (s.setTag x.tag ⟨false, lock⟩).answer x.tag .fault

/-- Every tile in flight is set dirty, as at an abandonment that leaves the tile map standing (R107). -/
def State.dirtyFlying (s : State) : State := (s.eng.inFlight.map fun e => e.tile).foldl State.setDirty s

/-- Entry to HANDED_OVER (R10, R71). The tile map is kept, the tiles in flight set dirty at their abandonment (R107).
DEDUCED (notes/assumptions/26.md). -/
def State.enterHandedOver (s : State) (reason : ExitReason) : State :=
  let held := s.mem.holdList
  let s1 := held.foldl State.failHeld s
  let s2 := if held.isEmpty then s1 else s1.latch .writeRefused
  let s3 := { s2 with mem.holdList := [], mon.drainHold := false, mon.regionHold := none }
  (((((s3.dirtyFlying).dropWork).writeExit reason).raise .campaignEnd).settleEnd).enter .handedOver

/-! ### Start (R58, R60) -/

/-- The regions the active bank names, whatever the state: the plan of the next campaign. -/
def State.plan (s : State) : List (Nat × Region) := s.tables.validRegions s.tables.active

/-- Entry to PLAN: BEGIN is raised, the plan is queued and the plan wait starts (R60, R144). -/
def State.enterPlan (s : State) : State :=
  let s1 := s.enter .plan
  let s2 := s1.raiseControl (.beginCampaign s1.camp.number s1.mgmt.identity s1.txq.nextSeq)
  { s2.queueMark (.plan s2.plan) with camp.planWait := some Config.planWaitTime }

/-- The next campaign number: 16 bits, 0 skipped (R58). -/
def nextNumber (n : Seq) : Seq := if n + 1 = 0 then 1 else n + 1

/-- Steps 1 to 6 of the campaign start (R58). -/
def State.startSteps (s : State) (peer : PeerRecord) : State :=
  let s1 := State.helloOnChange { s with camp.number := nextNumber s.camp.number }
  let s2 := { s1 with
    eng.faults := []
    eng.demandQueue := []
    mon.degrade := 0
    aud := Audit.reset
    conv := Convergence.reset s1.cfg.share
    map := s1.map ||| policyMask s1.plan .copy ||| policyMask s1.plan .late
    camp := { s1.camp with
      breakFlag := false
      auditPassed := false
      tries := 0
      handoverSent := false
      passNumber := 0
      synced := false
      peerIdentity := peer.identity
      peerSize := peer.size } }
  s2.raise .campaignStart

/-- Campaign start from ARMED (R58, R59). -/
def State.startCampaign (s : State) (peer : PeerRecord) : State :=
  let s1 := s.startSteps peer
  if s1.cfg.startDelay = 0 then s1.enterPlan
  else { s1.enter .delay with camp.startDelay := some (s1.cfg.startDelay * 1000) }

/-- Whether every region of the plan lies below a memory size (R56, R77). -/
def State.planFits (s : State) (size : Nat) : Bool :=
  s.plan.all fun r => decide (r.2.base + r.2.count ≤ size)

/-! ### Link loss (R75) -/

/-- The tiles of the MIRROR entries in the queue. -/
def TxQueue.mirrorTiles (q : TxQueue) : List Nat :=
  q.queue.filterMap fun e => match e.body with
    | .mirror _ _ addr _ _ _ => some (tileOf addr)
    | _ => none

/-- The link-loss steps (R75). The mismatch count of an audit pass in progress is dropped (R172). -/
def State.lossSteps (s : State) : State :=
  let s1 := s.dirtyFlying.abandonAll
  let s2 := s.txq.mirrorTiles.foldl State.setDirty s1
  let s3 := State.release { s2 with txq := s2.txq.emptied, eng.demandQueue := [] }
  { s3 with camp.holdBudget := none, aud.mismatch := 0 }

/-- The campaign stalls at a link loss (R76). -/
def State.stall (s : State) : State :=
  let from_ := s.camp.state
  let s1 := s.enter .stalled
  { s1 with
    camp := { s1.camp.stopTimers with stalledFrom := from_, peerWait := some (s1.cfg.peerWait * 1000000) } }

/-- The campaign meets a link loss (R75, R76, R77, R72). In STALLED no link-loss step is taken, so what the transmit queue
holds by then stays in it. DEDUCED (notes/assumptions/63.md). -/
def State.campaignLinkLoss (s : State) : State :=
  match s.camp.state with
  | .idle | .armed | .handedOver => s
  | .stalled =>
    if s.camp.resumeWait.isSome then
      { s with
        camp.resumeWait := none
        camp.resumeRepeat := none
        camp.peerWait := some (s.cfg.peerWait * 1000000) }
    else s
  | .plan => s.lossSteps.close .linkLost
  | .ending => s.lossSteps.close s.camp.endReason
  | .drain =>
    if s.camp.handoverSent then s.enterHandedOver .handoverUnconfirmed
    else if s.cfg.relink = .latched then s.lossSteps.close .linkLost else s.lossSteps.stall
  | .insync =>
    let s1 := (s.raise .insyncLeave).lossSteps
    if s.cfg.relink = .latched then s1.close .linkLost else s1.stall
  | .delay | .sweep | .settle | .mirror | .audit | .freeze =>
    if s.cfg.relink = .latched then s.lossSteps.close .linkLost else s.lossSteps.stall

/-! ### The relink decision (R76, R77) -/

/-- A relink that does not resume: PEER_CHANGED is recorded, the queue is emptied as by every campaign end, and a new
campaign starts at PLAN or the sender enters IDLE (R77, R127). -/
def State.restart (s : State) (peer : PeerRecord) : State :=
  let s1 := (s.writeExit .peerChanged).raise .campaignEnd
  let s2 := { s1 with
    txq := s1.txq.emptied
    tables.pending := none
    camp := { s1.camp.stopTimers with breakFlag := false } }
  if peer.role = .receiver && s2.planFits peer.size then (s2.startSteps peer).enterPlan
  else s2.settleEnd.enterIdle

/-- Whether the peer's HELLO lets the campaign resume (R77). -/
def State.mayResume (s : State) (peer : PeerRecord) : Bool :=
  peer.identity == s.camp.peerIdentity && s.camp.peerIdentity != 0 && peer.role == .receiver
    && peer.number == s.camp.number
    && (peer.state == ReceiverState.receiving.code || peer.state == ReceiverState.insync.code)

/-- The relink decision (R77, R145). -/
def State.decideRelink (s : State) (peer : PeerRecord) : State :=
  let s1 := { s with camp.peerWait := none }
  if s1.mayResume peer then
    State.raiseControl
      { s1 with
        camp.resumeWait := some Config.resumeWaitTime
        camp.resumeRepeat := some Config.resumeRepeatTime }
      (.resume s1.camp.number s1.txq.nextSeq)
  else s1.restart peer

/-- The decision is taken in STALLED when the link has entered UP and a HELLO has been received, at the later of the
two (R76). DEDUCED (notes/assumptions/18.md). -/
def State.tryRelink (s : State) : State :=
  match s.link.peer with
  | some peer =>
    if s.mgmt.role = .sender && s.camp.state = .stalled && s.camp.peerWait.isSome && s.link.state.isOpen then
      s.decideRelink peer
    else s
  | none => s

/-! ### FREEZE and DRAIN (R67 to R70) -/

/-- Entry to DRAIN (R70). -/
def State.enterDrain (s : State) : State :=
  let s1 := s.enter .drain
  { s1 with
    mon.drainHold := true
    camp.holdBudget := some s1.cfg.holdBudget
    camp.handoverSent := false
    eng.drainWalk := ⟨0, 0⟩ }

/-- The next region of the freeze list is frozen, or DRAIN is entered after the last (R68, R70). -/
def State.freezeNext (s : State) : State :=
  match s.camp.freezeList with
  | [] => s.enterDrain
  | n :: rest =>
    { s with
      mon.regionHold := some n
      camp.freezeList := rest
      camp.copyBegun := false
      camp.holdBudget := some s.cfg.holdBudget }

/-- The fallback from FREEZE or DRAIN: INSYNC without a mark when D = 0 and no scope COPY tile is in flight, else
MIRROR with an UNSYNC mark and a new pass (R65, R69, R72). -/
def State.fallBack (s : State) : State :=
  if s.countD = 0 && !(s.eng.inFlight.any fun e => s.scopeIs .copy e.tile) then
    (s.enter .insync).raise .insyncEnter
  else s.queueUnsync.beginPass .mirror

/-! ### Pausing and strikes (R66, R108) -/

/-- The sender is paused while the break flag is set, or while pace is enabled and PACE is high (R66), in the states too
that do not obey a pause. DEDUCED (notes/assumptions/60.md). -/
def State.paused (s : State) : Bool :=
  s.mgmt.role == .sender && (s.camp.breakFlag || (s.cfg.paceEnable && s.mgmt.pace))

/-- A strike on a tile (R108, R109). The QUARANTINE mark is queued in every running state, STALLED among them.
DEDUCED (notes/assumptions/46.md). -/
def State.strike (s : State) (t : Nat) : State :=
  match s.eng.faults.find? fun f => f.tile == t with
  | none =>
    if s.eng.faults.length < Config.faultLimit then
      { s with eng.faults := s.eng.faults ++ [⟨t, 1, false⟩] }
    else s.endWith .faultListFull
  | some f =>
    if f.quarantined then s
    else
      State.queueMark
        { s with eng.faults := s.eng.faults.map fun g => if g.tile = t then ⟨t, 2, true⟩ else g }
        (.quarantine t)

/-- An abort of a running campaign other than in HANDED_OVER, with the reason it records (R73, R76).
DEDUCED (notes/assumptions/27.md). -/
def State.abortWith (s : State) (kind : AbortKind) (reason : ExitReason) : State :=
  if s.camp.state = .drain && s.camp.handoverSent then s.enterHandedOver .handoverUnconfirmed
  else if s.camp.state = .ending then
    match kind with
    | .immediate => s.close s.camp.endReason
    | .orderly => s
  else
    match kind with
    | .immediate => s.close reason
    | .orderly =>
      if s.eng.inFlight.isEmpty then s.close reason
      else
        let s1 := s.enter .ending
        { s1 with camp.endReason := reason, camp.settle := none }

end Sys2Proof.Machine
end

