-- ==== Sys2Proof/Machine/Engine.lean ====
section
/-! DEFINITION. The copy engine: walks, choice of the next tile, line reads, completion, and the tile digest
(chapters 6 and 10). -/

namespace Sys2Proof.Machine

/-! ### The digest (R167) -/

/-- One unit of the digest: A becomes (A + u) mod 65535, then B becomes (B + A) mod 65535 (R167). -/
def digestUnit (ab : Nat × Nat) (u : Nat) : Nat × Nat :=
  let a := (ab.1 + u) % 65535
  (a, (ab.2 + a) % 65535)

/-- The 32 units of a line, in ascending address order. -/
def lineUnits (l : Line) : List Nat := (List.range 32).map fun i => (l.extractLsb' (16 * i) 16).toNat

/-- The digest of a tile from its lines in ascending address order (R167). -/
def digestOf (lines : List Line) : BitVec 32 :=
  let ab := lines.foldl (fun ab l => (lineUnits l).foldl digestUnit ab) (0, 0)
  BitVec.ofNat 32 (ab.2 * 65536 + ab.1)

/-- Line n of a buffer. -/
def bufferLine (b : List (Nat × Line)) (n : Nat) : Option Line := (b.find? fun p => p.1 == n).map fun p => p.2

/-- The lines of a full buffer in ascending order. -/
def bufferLines (b : List (Nat × Line)) : List Line := (List.range Config.tileLines).filterMap (bufferLine b)

/-! ### Eligible tiles (R95) -/

/-- The tiles that may be offered: dirty, not in flight, not quarantined. -/
def State.eligible (s : State) : TileMap := s.map &&& ~~~ s.inFlightMask &&& ~~~ s.quarantineMask

/-- The tiles the audit walk may offer: clean and not quarantined (R98, R169). -/
def State.auditable (s : State) : TileMap := ~~~ s.map &&& ~~~ s.inFlightMask &&& ~~~ s.quarantineMask

/-- Whether the state gives the copy engine a source of tiles (R95). -/
def hasSource : SenderState → Bool
  | .sweep | .settle | .mirror | .audit | .insync | .freeze | .drain => true
  | .idle | .armed | .delay | .plan | .handedOver | .stalled | .ending => false

/-- The conditions of R94 other than the offer of a tile. -/
def State.mayBegin (s : State) : Bool :=
  s.mgmt.role == .sender && hasSource s.camp.state
    && (!s.paused || s.camp.state == .freeze || s.camp.state == .drain)
    && decide (s.eng.inFlight.length < Config.inFlightLimit) && s.txq.hasRoom

/-! ### The sweep walk (R61, R97) -/

/-- A visit ends at its region's last tile (R61). -/
def State.endVisit (s : State) (r : Region) : State := if r.regionEnd then s.raise .regionEnd else s

/-- The active bank's entries. -/
def State.bankEntries (s : State) : List Nat := s.tables.entries s.tables.active

/-- The sweep walk has passed the last entry of the active bank. -/
def State.sweepDone (s : State) : Bool := decide (s.bankEntries.length ≤ s.eng.sweep.entry)

/-- The tile the sweep walk stands on, if it may be offered (R97). -/
def State.sweepOffer (s : State) : Option Nat :=
  match (s.bankEntries[s.eng.sweep.entry]?).bind s.tables.region with
  | some r =>
    let t := r.base + s.eng.sweep.offset
    if r.policy = .copy && r.has t && s.eligible.getLsbD t then some t else none
  | none => none

/-- The sweep walk takes the next entry. -/
def State.nextEntry (s : State) : State := { s with eng.sweep := ⟨s.eng.sweep.entry + 1, 0⟩ }

/-- The sweep walk moves to the first tile it may offer, or past the last entry; at most `fuel` entries are taken
(R61, R97). -/
def State.moveSweep : Nat → State → State
  | 0, s => s
  | fuel + 1, s =>
    match s.bankEntries[s.eng.sweep.entry]? with
    | none => s
    | some n =>
      match s.tables.region n with
      | none => State.moveSweep fuel s.nextEntry
      | some r =>
        match (if r.policy = .copy then firstTile (s.eligible &&& r.mask) (r.base + s.eng.sweep.offset) else none) with
        | some t => { s with eng.sweep.offset := t - r.base }
        | none => State.moveSweep fuel (s.endVisit r).nextEntry

/-- After tile t is begun by the sweep walk the position moves to the tile after it; past its region's last tile the
visit ends (R97). -/
def State.sweepPast (s : State) (t : Nat) : State :=
  match (s.bankEntries[s.eng.sweep.entry]?).bind s.tables.region with
  | some r =>
    if t + 1 < r.base + r.count then { s with eng.sweep.offset := t + 1 - r.base } else (s.endVisit r).nextEntry
  | none => s

/-! ### The dirty scan and the audit walk (R98, R168, R169) -/

/-- The dirty scope COPY tile the dirty scan offers (R98). -/
def State.scanOffer (s : State) : Option Nat :=
  let m := s.eligible &&& policyMask s.scope .copy
  match firstTile m s.eng.scanPointer with
  | some t => some t
  | none => firstTile m 0

/-- The region the audit walk stands in: a place in the first-occurrence list of the active bank. -/
def State.auditRegion (s : State) : Option Region :=
  ((s.bankEntries.eraseDups)[s.aud.walk.entry]?).bind s.tables.region

/-- The tile the audit walk stands on, if it may be offered (R169). -/
def State.auditOffer (s : State) : Option Nat :=
  if s.aud.walkDone then none
  else
    match s.auditRegion with
    | some r =>
      let t := r.base + s.aud.walk.offset
      if r.policy = .copy && r.has t && s.auditable.getLsbD t then some t else none
    | none => none

/-- The audit walk moves to the first tile it may offer; past the last region it sets the walk-done flag (R169). -/
def State.moveAudit : Nat → State → State
  | 0, s => s
  | fuel + 1, s =>
    match (s.bankEntries.eraseDups)[s.aud.walk.entry]? with
    | none => { s with aud.walkDone := true }
    | some n =>
      match s.tables.region n with
      | none => State.moveAudit fuel { s with aud.walk := ⟨s.aud.walk.entry + 1, 0⟩ }
      | some r =>
        match (if r.policy = .copy then firstTile (s.auditable &&& r.mask) (r.base + s.aud.walk.offset) else none) with
        | some t => { s with aud.walk.offset := t - r.base }
        | none => State.moveAudit fuel { s with aud.walk := ⟨s.aud.walk.entry + 1, 0⟩ }

/-- Whether a region number names a valid COPY region. -/
def State.isCopyEntry (s : State) (n : Nat) : Bool :=
  match s.tables.region n with
  | some r => r.policy == .copy
  | none => false

/-- Whether a valid COPY region stands at or after a place of the first-occurrence list. -/
def State.copyRegionFrom (s : State) (n : Nat) : Bool := ((s.bankEntries.eraseDups).drop n).any s.isCopyEntry

/-- After the audit of tile t is begun the walk moves to the next tile; past the last tile of the last COPY region it
sets the walk-done flag (R169). -/
def State.auditPast (s : State) (t : Nat) : State :=
  match s.auditRegion with
  | some r =>
    if t + 1 < r.base + r.count then { s with aud.walk.offset := t + 1 - r.base }
    else
      { s with
        aud.walk := ⟨s.aud.walk.entry + 1, 0⟩
        aud.walkDone := !s.copyRegionFrom (s.aud.walk.entry + 1) }
  | none => s

/-- An audit pass begins at the first tile of the first COPY region; over a scope with no COPY region its walk is done at
once (R168, R172). -/
def State.beginAuditPass (s : State) : State :=
  { s with
    aud.walk := ⟨(s.bankEntries.eraseDups).findIdx s.isCopyEntry, 0⟩
    aud.walkDone := !s.copyRegionFrom 0
    aud.mismatch := 0 }

/-- Entry to AUDIT (R98, R168). -/
def State.enterAudit (s : State) : State :=
  let s1 := s.enter .audit
  State.beginAuditPass { s1 with eng.scanPointer := 0 }

/-- The sources before the audit walk have none to offer: in AUDIT, with the dirty scan finding no tile, the walk is asked
for its next tile and moves to it (R98, R169). -/
def State.askAudit (s : State) : State :=
  if s.camp.state = .audit && s.scanOffer.isNone then s.moveAudit (s.bankEntries.length + 1) else s

/-- The walks move while the conditions of R94 hold: the sweep walk while no demand waits, the audit walk when no demand
waits and it is asked (R97, R98, R169). DEDUCED (notes/assumptions/8.md). -/
def State.moveWalks (s : State) : State :=
  if s.mayBegin && s.eng.demandQueue.isEmpty then
    match s.camp.state with
    | .sweep | .mirror => s.moveSweep (s.bankEntries.length + 1)
    | .audit => s.askAudit
    | _ => s
  else s

/-! ### The FREEZE and DRAIN walks (R99) -/

/-- The tile the held-region walk offers, looked for at the grant from the tile after the last it began: the next in
ascending order, then from the region's first tile (R99). DEDUCED (notes/assumptions/50.md). -/
def State.freezeOffer (s : State) : Option Nat :=
  if s.camp.copyBegun then
    match s.mon.regionHold.bind s.tables.region with
    | some r =>
      let m := s.eligible &&& r.mask
      match firstTile m (r.base + s.eng.freezeWalk) with
      | some t => some t
      | none => firstTile m r.base
    | none => none
  else none

/-- The tile the drain walk offers, with the entry it lies in, looked for at the grant: bank order and ascending tile order
from the tile after the last it began, then again from entry 0; at most `fuel` entries are looked at (R99).
DEDUCED (notes/assumptions/50.md). -/
def State.drainOffer : Nat → State → Walk → Option (Nat × Nat × Nat)
  | 0, _, _ => none
  | fuel + 1, s, w0 =>
    let w : Walk := if w0.entry < s.bankEntries.length then w0 else ⟨0, 0⟩
    match (s.bankEntries[w.entry]?).bind s.tables.region with
    | some r =>
      match (if r.policy = .copy || r.policy = .late then
          firstTile (s.eligible &&& r.mask) (r.base + w.offset) else none) with
      | some t => some (w.entry, r.base, t)
      | none => State.drainOffer fuel s ⟨w.entry + 1, 0⟩
    | none => State.drainOffer fuel s ⟨w.entry + 1, 0⟩

/-! ### Beginning a tile (R96, R100, R101) -/

/-- Whether a demanded tile may be begun or queued: a dirty scope COPY or LATE tile, not in flight, not quarantined
(R96, R110). -/
def State.demandable (s : State) (t : Nat) : Bool :=
  s.tracked t && s.bit t && !s.isInFlight t && !s.quarantined t

/-- Heads are taken off the demand queue until one may be begun (R96). -/
def State.takeDemand (s : State) : List Nat → Option Nat × List Nat
  | [] => (none, [])
  | t :: rest => if s.demandable t then (some t, rest) else s.takeDemand rest

/-- A new in-flight entry (R100). -/
def InFlight.new (t : Nat) (kind : CopyKind) : InFlight where
  tile := t
  kind := kind
  redirtied := false
  faulted := false
  issued := 1
  done := 0
  retries := []
  waiting := []
  firstSeq := none
  lastSeq := none
  buffer := []

/-- A COPY entry is begun: the bit is cleared, the TILE entry is appended, line 0 is issued, and INSYNC is left, its
UNSYNC_MARK joining the queue behind the TILE entry (R31, R65, R100). DEDUCED (notes/assumptions/55.md). -/
def State.beginCopy (s : State) (t : Nat) : State :=
  let s1 := { s with
    eng.inFlight := s.eng.inFlight ++ [InFlight.new t .copy]
    map := clearBit s.map t
    txq := s.txq.append (.tile t) }
  let s2 := s1.issue (.copy t 0) .readLine (lineAddr t 0) 0 0
  if s2.camp.state = .insync then s2.leaveInsync else s2

/-- An AUDIT entry is begun (R101). -/
def State.beginAudit (s : State) (t : Nat) : State :=
  State.issue { s with eng.inFlight := s.eng.inFlight ++ [InFlight.new t .audit] }
    (.copy t 0) .readLine (lineAddr t 0) 0 0

/-- The tile a walk or scan of the state offers after the demand queue, begun, with the walk's position after it
(R95). -/
def State.beginWalk (s : State) : Option State :=
  match s.camp.state with
  | .sweep | .mirror => s.sweepOffer.map fun t => (s.sweepPast t).beginCopy t
  | .audit =>
    match s.scanOffer with
    | some t => some (State.beginCopy { s with eng.scanPointer := (t + 1) % Config.tiles } t)
    | none => s.auditOffer.map fun t => (s.auditPast t).beginAudit t
  | .freeze =>
    match s.freezeOffer with
    | some t =>
      let base := match s.mon.regionHold.bind s.tables.region with
        | some r => r.base
        | none => 0
      some (State.beginCopy { s with eng.freezeWalk := t + 1 - base } t)
    | none => none
  | .drain =>
    match s.drainOffer (s.bankEntries.length + 1) s.eng.drainWalk with
    | some (entry, base, t) => some (State.beginCopy { s with eng.drainWalk := ⟨entry, t + 1 - base⟩ } t)
    | none => none
  | _ => none

/-- The next read of the tiles in flight: of the entry begun earliest that has one, its lines waiting to be read again
first (R102, R103). DEDUCED (notes/assumptions/10.md). -/
def State.nextRead (s : State) : Option (Nat × Nat × Bool) :=
  s.eng.inFlight.findSome? fun e =>
    match e.waiting with
    | l :: _ => some (e.tile, l, true)
    | [] => if e.issued < Config.tileLines then some (e.tile, e.issued, false) else none

/-- Whether COPY has a first line read to present (R94). -/
def State.firstReadReady (s : State) : Bool := s.mayBegin && (!s.eng.demandQueue.isEmpty || s.beginWalk.isSome)

/-- Whether COPY waits (R13). -/
def State.copyWaits (s : State) : Bool :=
  s.mgmt.role == .sender && s.mem.internalRoom && (s.nextRead.isSome || s.firstReadReady)

/-- The grant of a further line read (R102). -/
def State.grantRead (s : State) (t l : Nat) (again : Bool) : State :=
  State.issue
    { s with eng.inFlight := s.eng.inFlight.map fun e =>
        if e.tile = t then
          if again then { e with waiting := e.waiting.drop 1 } else { e with issued := e.issued + 1 }
        else e }
    (.copy t l) .readLine (lineAddr t l) 0 0

/-- The grant of a first line read: demands, then the sources of the state, the audit walk being asked once every demand
has been discarded, and the held-region and drain walks looking for theirs then too. The flag says whether a tile was begun;
if not, the request is withdrawn (R94, R95, R96, R99, R169). DEDUCED (notes/assumptions/9.md, notes/assumptions/50.md). -/
def State.grantFirst (s : State) : State × Bool :=
  match s.takeDemand s.eng.demandQueue with
  | (some t, rest) => (State.beginCopy { s with eng.demandQueue := rest } t, true)
  | (none, rest) =>
    let s1 := State.askAudit { s with eng.demandQueue := rest }
    match s1.beginWalk with
    | some s2 => (s2, true)
    | none => (s1, false)

/-- The grant of COPY's request (R94, R102). -/
def State.grantCopy (s : State) : State × Bool :=
  match s.nextRead with
  | some (t, l, again) => (s.grantRead t l again, true)
  | none => s.grantFirst

/-! ### Line read terminations (R102 to R104, R170) -/

/-- Changes the in-flight entry of a tile. -/
def State.updateEntry (s : State) (t : Nat) (f : InFlight → InFlight) : State :=
  { s with eng.inFlight := s.eng.inFlight.map fun e => if e.tile = t then f e else e }

/-- The digest of a complete AUDIT entry: its DIGEST entry is queued or backlogged and the buffer is freed (R170). -/
def State.finishAudit (s : State) (e : InFlight) : State :=
  if e.kind = .audit && e.done = Config.tileLines then
    (s.updateEntry e.tile fun e => { e with buffer := [] }).queueMark (.digest e.tile (digestOf (bufferLines e.buffer)))
  else s

/-- A line read terminates DONE (R102, R103, R170). -/
def State.lineDone (s : State) (e : InFlight) (l : Nat) (data : Line) : State :=
  let e1 := { e with
    done := e.done + 1
    retries := setRetry e.retries l 0
    buffer := e.buffer ++ [(l, data)] }
  (s.updateEntry e.tile fun _ => e1).finishAudit e1

/-- The TILE entry of a tile is cut back: withdrawn if no frame was sent, else its unsent frames become one ABANDON_TILE
(R104). -/
def State.cutBack (s : State) (t : Nat) : State :=
  match s.txq.queue.find? fun e => e.body == .tile t with
  | none => s
  | some e =>
    if e.sent = 0 then { s with txq := s.txq.remove e.id }
    else
      { s with txq.queue := s.txq.queue.map fun q =>
          if q.id = e.id then { q with body := .tileCut t q.sent } else q }

/-- A line read terminated FAULT ends the tile read (R104). -/
def State.lineFault (s : State) (t : Nat) : State :=
  (((((s.cutBack t).markDirty t).latch .farFault).abandonEntry t).strike t)

/-- A line read terminates RETRY; the 32nd in a row is taken as FAULT (R103). -/
def State.lineRetry (s : State) (e : InFlight) (l : Nat) : State :=
  let n := retryCount e.retries l + 1
  if n = Config.retryLimit then s.lineFault e.tile
  else s.updateEntry e.tile fun e => { e with retries := setRetry e.retries l n, waiting := e.waiting ++ [l] }

/-- The termination of a COPY or audit line read (R102 to R104). -/
def State.copyTermination (s : State) (t l : Nat) (term : Term) : State :=
  match s.eng.inFlight.find? fun e => e.tile == t with
  | none => s
  | some e =>
    match term with
    | .done data => s.lineDone e l data
    | .retry => s.lineRetry e l
    | .fault => s.lineFault t

/-! ### Completion (R105) -/

/-- A COPY entry completes (R82, R105). -/
def State.complete (s : State) (t : Nat) : State :=
  match s.eng.inFlight.find? fun e => e.tile == t && e.kind == .copy with
  | none => s
  | some e =>
    let s1 := { s with eng.inFlight := s.eng.inFlight.filter fun e => e.tile != t }
    if e.faulted then s1
    else
      { s1 with
        conv.k := if s1.scopeIs .copy t then satAdd Config.passCounterLimit s1.conv.k 1 else s1.conv.k
        eng.faults := s1.eng.faults.filter fun f => f.quarantined || f.tile != t }

end Sys2Proof.Machine
end

