-- ==== Sys2Proof/Machine/Stream.lean ====
section
/-! DEFINITION. The sender's ordered stream: which frame is next and whether it is ready, its sending, its coverage by
APPLIED, loss handling, and credits (chapters 7 and 8). -/

namespace Sys2Proof.Machine

/-! ### The next frame (R113, R115, R116) -/

/-- Whether every frame of an entry has been sent. -/
def TxEntry.allSent (e : TxEntry) : Bool := decide (e.body.frames ≤ e.sent)

/-- The head of the unsent part. -/
def TxQueue.head (q : TxQueue) : Option TxEntry := q.queue.find? fun e => !e.allSent

/-- The entry being sent: some of its frames sent and others not (7.1). -/
def TxQueue.beingSent (q : TxQueue) : Option TxEntry := q.queue.find? fun e => !e.allSent && e.sent != 0

/-- The data of chunk c, if its 8 lines have terminated DONE (R102). -/
def chunkData (e : InFlight) (c : Nat) : Option ChunkData :=
  let lines := (List.range 8).filterMap fun j => bufferLine e.buffer (c * 8 + j)
  if lines.length = 8 then some (BitVec.ofNat 4096 (joinLines lines)) else none

/-- The PLAN frame of a region record (12.2). -/
def planBody (r : Nat × Region) : OrderedBody :=
  .plan (BitVec.ofNat 8 r.1) (BitVec.ofNat 32 r.2.base) (BitVec.ofNat 32 r.2.count) r.2.policy.code
    (boolByte r.2.regionEnd)

/-- Frame n of an entry, if it is ready to be sent (7.1, R115). -/
def State.readyFrame (s : State) (b : TxBody) (n : Nat) : Option OrderedBody :=
  match b with
  | .tile t =>
    match s.eng.inFlight.find? fun e => e.tile == t && e.kind == .copy with
    | some e => (chunkData e n).map fun d => .tileChunk (BitVec.ofNat 32 t) (BitVec.ofNat 8 n) d
    | none => none
  | .tileCut t _ => some (.abandonTile (BitVec.ofNat 32 t))
  | .mirror _ ready addr line mask data => if ready then some (.mirror addr line mask data) else none
  | .digest t v => some (.digest (BitVec.ofNat 32 t) v)
  | .syncMark sync => some (if sync then .syncMark else .unsyncMark)
  | .quarantine t => some (.quarantine (BitVec.ofNat 32 t))
  | .plan rs =>
    match rs[n]? with
    | some r => some (planBody r)
    | none => some .planEnd
  | .handover => some .handover

/-- A frame goes out on the lanes; a KEEPALIVE is then no longer due (R137, R139).
DEDUCED (notes/assumptions/21.md). -/
def State.send (s : State) (f : Frame) : State :=
  { s with link.linkOut := s.link.linkOut ++ [f], link.keepaliveDue := false }

/-- The next sequence number, a credit and the sent total are used by an ordered frame (R116, R157). -/
def State.sendOrdered (s : State) (body : OrderedBody) (entry : Option Nat) (index : Nat) : State :=
  let s1 := { s with
    txq.record := s.txq.record ++ [({ seq := s.txq.nextSeq, entry := entry, index := index } : SentItem)]
    txq.nextSeq := s.txq.nextSeq + 1
    txq.credits := s.txq.credits - 1
    link.sentTotal := s.link.sentTotal + 1 }
  s1.send (.ordered s.txq.nextSeq body)

/-- The in-flight entry notes the sequence number of a frame of its TILE or DIGEST entry (R102, R170). -/
def noteSeq (b : TxBody) (n : Nat) (seq : Seq) (e : InFlight) : InFlight :=
  match b with
  | .tile t =>
    if e.tile = t && e.kind = .copy then
      { e with
        firstSeq := if n = 0 then some seq else e.firstSeq
        lastSeq := if n + 1 = Config.tileChunks then some seq else e.lastSeq }
    else e
  | .digest t _ =>
    if e.tile = t && e.kind = .audit && e.lastSeq.isNone then { e with firstSeq := some seq, lastSeq := some seq } else e
  | _ => e

/-- The queue sends frame `body`, frame number `e.sent` of entry e (R116). -/
def State.sendEntry (s : State) (e : TxEntry) (body : OrderedBody) : State :=
  let s1 := s.sendOrdered body (some e.id) e.sent
  { s1 with
    txq.queue := s1.txq.queue.map fun q => if q.id = e.id then { q with sent := q.sent + 1 } else q
    eng.inFlight := s1.eng.inFlight.map (noteSeq e.body e.sent s.txq.nextSeq)
    camp.handoverSent := s1.camp.handoverSent || (match e.body with
      | .handover => true
      | _ => false) }

/-- The resync mark or the next frame of the queue is sent, if the conditions of R116 hold (R116, R124). -/
def State.transmitOrdered (s : State) : Option State :=
  if s.link.state = .up && decide (1 ≤ s.txq.credits) && s.txq.resync.isNone then
    match s.txq.resyncMark with
    | some sync =>
      some (State.sendOrdered { s with txq.resyncMark := none } (if sync then .syncMark else .unsyncMark) none 0)
    | none =>
      match s.txq.head with
      | some e => (s.readyFrame e.body e.sent).map fun b => s.sendEntry e b
      | none => none
  else none

/-! ### APPLIED (R117, R118) -/

/-- The items of the record up to and including number n, and those after it, if n is recorded (R117). -/
def splitRecord (n : Seq) : List SentItem → Option (List SentItem × List SentItem)
  | [] => none
  | i :: rest =>
    if i.seq = n then some ([i], rest)
    else match splitRecord n rest with
      | some (covered, after) => some (i :: covered, after)
      | none => none

/-- The entries whose last frame is among the items, in the order of the items (R117). -/
def TxQueue.coveredBy (q : TxQueue) (items : List SentItem) : List TxEntry :=
  items.filterMap fun i => match i.entry with
    | some id => q.queue.find? fun e => e.id == id && e.body.frames == i.index + 1 && e.allSent
    | none => none

/-- What happens when a covered entry has left the queue (R118). -/
def State.handOff (s : State) (b : TxBody) : State :=
  match b with
  | .tile t => s.complete t
  | .handover => s.enterHandedOver .complete
  | _ => s

/-- An entry leaves the queue covered (R117, R118). -/
def State.leaveQueue (s : State) (e : TxEntry) : State :=
  State.handOff { s with txq := s.txq.remove e.id } e.body

/-- APPLIED(n) (R117). -/
def State.takeApplied (s : State) (n : Seq) : State :=
  match splitRecord n s.txq.record with
  | none => s
  | some (covered, after) =>
    (s.txq.coveredBy covered).foldl State.leaveQueue { s with txq.record := after }

/-! ### Loss handling (R122 to R124, R144) -/

/-- Whether loss handling at the items from the gap on reaches an entry: one of its frames is among them, or it is the
entry being sent (R122). -/
def TxQueue.reached (q : TxQueue) (lost : List SentItem) (e : TxEntry) : Bool :=
  (lost.any fun i => i.entry == some e.id) || (match q.beingSent with
    | some b => b.id == e.id
    | none => false)

/-- The treatment of a removed entry's tile (R122). Only a MIRROR marks a tile in flight redirtied. DEDUCED
(notes/assumptions/56.md). -/
def State.treatLost (s : State) (e : TxEntry) (lost : List SentItem) : State :=
  match e.body with
  | .tile t => (s.abandonEntry t).markDirty t
  | .tileCut t _ => s.markDirty t
  | .digest t _ =>
    let mine := s.eng.inFlight.any fun f => f.tile == t && f.kind == .audit
      && lost.any fun i => i.entry == some e.id && f.lastSeq == some i.seq
    (if mine then s.abandonEntry t else s).markDirty t
  | .mirror _ _ addr _ _ _ => (s.markDirty (tileOf addr)).redirty (tileOf addr)
  | .syncMark _ | .quarantine _ | .plan _ | .handover => s

/-- The marks that loss handling queues again (R123). -/
def TxBody.isRequeued : TxBody → Bool
  | .quarantine _ | .plan _ | .handover => true
  | .tile _ | .tileCut _ _ | .mirror _ _ _ _ _ _ | .digest _ _ | .syncMark _ => false

/-- A PLAN entry. -/
def TxBody.isPlan : TxBody → Bool
  | .plan _ => true
  | _ => false

/-- A HANDOVER mark. -/
def TxBody.isHandover : TxBody → Bool
  | .handover => true
  | _ => false

/-- Places entries at the head of the unsent part (R123). -/
def TxQueue.insertHead (q : TxQueue) (es : List TxEntry) : TxQueue :=
  { q with queue := (q.queue.filter TxEntry.allSent) ++ es ++ (q.queue.filter fun e => !e.allSent) }

/-- The removed marks are queued again, a SYNC_MARK behind a re-sent plan while the current sync state is SYNC, and the
backlog joins after them (R123). -/
def State.requeue (s : State) (removed : List TxEntry) : State :=
  let marks := (removed.filter fun e => e.body.isRequeued).map fun e => { e with sent := 0 }
  let withSync := s.camp.synced && removed.any fun e => e.body.isPlan
  let room := decide (s.txq.queue.length + marks.length < Config.queueLimit)
  let q :=
    if withSync && room then
      { s.txq.insertHead (marks ++ [⟨s.txq.nextEntry, .syncMark true, 0⟩]) with nextEntry := s.txq.nextEntry + 1 }
    else if withSync then
      { s.txq.insertHead marks with backlog := backlogAdd (.syncMark true) s.txq.backlog }
    else s.txq.insertHead marks
  { s with txq := q.refill }

/-- RESYNC and the resync mark are prepared, and the numbering continues from the resync number (R124). -/
def State.prepareResync (s : State) (number : Seq) : State :=
  { s with
    txq.nextSeq := number
    txq.resync := some number
    txq.resyncMark := some s.camp.synced }

/-- BEGIN is raised again when the plan is queued again in PLAN (R144). -/
def State.rebegin (s : State) (removed : List TxEntry) (number : Seq) : State :=
  if s.camp.state = .plan && removed.any fun e => e.body.isPlan then
    s.raiseControl (.beginCampaign s.camp.number s.mgmt.identity number)
  else s

/-- Loss handling: the items from the gap on leave the record, the entries they reach leave the queue and are treated,
and the stream is restarted at the resync number (R71, R122 to R124). -/
def State.loseFrom (s : State) (kept lost : List SentItem) (number : Seq) : State :=
  let removed := s.txq.queue.filter (s.txq.reached lost)
  let staying := s.txq.queue.filter fun e => !s.txq.reached lost e
  let gone := removed.map fun e => e.id
  let record := kept.map fun i => match i.entry with
    | some id => if gone.contains id then { i with entry := none } else i
    | none => i
  let s1 := { s with txq.queue := staying, txq.record := record }
  let s2 : State := removed.foldl (fun (s : State) e => s.treatLost e lost) s1
  if (removed.any fun e => e.body.isHandover) && decide (3 ≤ s2.camp.tries) then
    s2.enterHandedOver .handoverUnconfirmed
  else
    let s3 := if removed.any fun e => e.body.isHandover then { s2 with camp.tries := s2.camp.tries + 1 } else s2
    ((s3.requeue removed).rebegin removed number).prepareResync number

/-- Loss handling at the recorded frame n, with the given resync number (R121, R122). -/
def State.loseAt (s : State) (n : Seq) (number : Seq) : State :=
  if s.txq.record.any fun i => i.seq == n then
    s.loseFrom (s.txq.record.takeWhile fun i => i.seq != n) (s.txq.record.dropWhile fun i => i.seq != n) number
  else s

/-- Loss handling at the oldest item of the record, as at an expiry of the apply timer (R120, R143). -/
def State.loseOldest (s : State) : State :=
  match s.txq.record with
  | [] => s
  | _ :: _ => s.loseFrom [] s.txq.record s.txq.nextSeq

/-! ### Credits (R119, R142) -/

/-- CREDIT(n): taken in UP and COOLDOWN, the count never exceeding 128 (R119, R142). -/
def State.takeCredit (s : State) (n : Nat) : State :=
  if s.link.state.isOpen then
    { s with
      txq.credits := min Config.creditLimit (s.txq.credits + n)
      link.creditTaken := s.link.creditTaken + BitVec.ofNat 16 n }
  else s

/-- The credit total of a good KEEPALIVE or HELLO (R142). -/
def State.recoverCredit (s : State) (total : Seq) : State :=
  let d := (total - s.link.creditTaken).toNat
  if 1 ≤ d ∧ d ≤ Config.creditLimit then s.takeCredit d else s

end Sys2Proof.Machine
end

