-- ==== Sys2Proof/Machine/ReceiverOps.lean ====
section
/-! DEFINITION. The receiving side's shared operations: the zero fill, the frame in application, the install of a plan,
BEGIN and ABANDON, link loss, and the demand table (chapter 9). -/

namespace Sys2Proof.Machine

/-! ### Small parts -/

/-- RECEIVING or INSYNC. -/
def ReceiverState.active : ReceiverState → Bool
  | .receiving | .insync => true
  | .idle | .live => false

/-- The stream is open while a campaign is held (9.1). -/
def State.streamOpen (s : State) : Bool := s.rx.held != 0

/-- An ordered frame of the receive buffer, not a marker. -/
def RxItem.isFrame : RxItem → Bool
  | .frame _ _ => true
  | .marker _ => false

/-- The ordered frames of the receive buffer (R156). -/
def Receiver.frames (r : Receiver) : Nat := (r.buffer.filter RxItem.isFrame).length

/-- A tile leaves the demand table and the expired list (R165). -/
def State.dropDemand (s : State) (t : Nat) : State :=
  { s with
    rx.demands := s.rx.demands.filter fun d => d.tile != t
    rx.expired := s.rx.expired.filter fun u => u != t }

/-- A tile becomes valid (R36, R165). -/
def State.makeValid (s : State) (t : Nat) : State := State.dropDemand { s with map := setBit s.map t } t

/-- A tile's valid bit is cleared (R36). -/
def State.makeInvalid (s : State) (t : Nat) : State := { s with map := clearBit s.map t }

/-- Whether a tile is in the quarantine list. -/
def State.rxQuarantined (s : State) (t : Nat) : Bool := s.rx.quarantine.contains t

/-- The assembly is marked broken (R159). -/
def State.breakAssembly (s : State) : State :=
  { s with rx.assembly := s.rx.assembly.map fun a => { a with broken := true } }

/-- The frame in application is abandoned (R150, R154, R166). -/
def State.abandonApplying (s : State) : State :=
  State.abandonOwned { s with rx.applying := none } fun o => match o with
    | .apply _ => true
    | _ => false

/-- The fill's outstanding writes are abandoned. -/
def State.abandonFill (s : State) : State :=
  s.abandonOwned fun o => match o with
    | .fill _ _ => true
    | _ => false

/-- The receive buffer and its markers are discarded, one credit for each frame (R163). -/
def State.discardBuffer (s : State) : State := State.giveCredit { s with rx.buffer := [] } s.rx.frames

/-- The plan under construction, the assembly, the fill, sync pending, the quarantine list, the demand table, the
expired list and the applied count are emptied (R150, R154, R166). -/
def State.emptyReceiver (s : State) : State :=
  { s.abandonFill with
    rx.planRecords := []
    rx.assembly := none
    rx.fill := .stopped
    rx.syncPending := false
    rx.quarantine := []
    rx.demands := []
    rx.expired := []
    rx.appliedCount := 0 }

/-! ### The end of a frame's application (R158, R162, R163) -/

/-- The transfers of the frame in application have all terminated. -/
def Applying.ended (a : Applying) : Bool := decide (a.total ≤ a.done)

/-- Whether HANDOVER may be applied, or the frame is another: in RECEIVING and INSYNC the zero fill must be complete
(R162). -/
def State.handoverReady (s : State) (a : Applying) : Bool :=
  a.body != .handover || !s.rx.state.active || s.rx.fill == .complete

/-- APPLIED is due when a frame is applied now (R163). -/
def State.appliedDue (s : State) : Bool :=
  decide (Config.appliedEvery ≤ s.rx.appliedCount + 1) || s.rx.frames == 0

/-- Whether the link takes the reports of the frame in application now, each in a place of its own (R138, R155).
DEDUCED (notes/assumptions/34.md). -/
def State.finishRoom (s : State) (a : Applying) : Bool :=
  a.silent || !s.link.state.isOpen || s.link.hasRoom (a.report.toList.length + if s.appliedDue then 1 else 0)

/-- HANDOVER is applied: the receiver enters LIVE from RECEIVING or INSYNC (R162). -/
def State.applyHandover (s : State) (a : Applying) : State :=
  if a.body == .handover && s.rx.state.active then
    State.enterReceiver { s with rx.demands := [], rx.expired := [] } .live
  else s

/-- A frame is applied: its report is handed, then the APPLIED that is due, and every frame applied counts (R158, R163). A
frame that met a link loss hands nothing, APPLIED included (R155). DEDUCED (notes/assumptions/37.md). -/
def State.finishFrame (s : State) (a : Applying) : State :=
  let s1 := { s with rx.applying := none }
  if a.silent then { s1 with rx.appliedCount := s1.rx.appliedCount + 1 }
  else
    let s2 := match a.report with
      | some r => s1.hand r
      | none => s1
    if s.appliedDue then
      let s3 := s2.hand (.applied a.seq)
      { s3 with rx.appliedCount := 0 }
    else { s2 with rx.appliedCount := s2.rx.appliedCount + 1 }

/-- The frame in application is applied once its transfers have terminated, a HANDOVER's zero fill is complete and the
report list has room. -/
def State.tryFinish (s : State) : State :=
  match s.rx.applying with
  | none => s
  | some a => if a.ended && s.handoverReady a && s.finishRoom a then (s.applyHandover a).finishFrame a else s

/-! ### The zero fill (R152) -/

/-- The fill becomes complete: with sync pending the receiver enters INSYNC, and a waiting HANDOVER is applied (R152,
R162). -/
def State.fillComplete (s : State) : State :=
  let s1 := { s with rx.fill := .complete }
  let s2 :=
    if s1.rx.syncPending then State.enterReceiver { s1 with rx.syncPending := false } .insync else s1
  s2.tryFinish

/-- The fill walks the given ZERO runs from an offset in the first: it stands at the first tile that is not valid, or
becomes complete (R152). -/
def State.moveFill (s : State) : List (Nat × Nat) → Nat → State
  | [], _ => s.fillComplete
  | (base, count) :: rest, offset =>
    match firstTile (~~~ s.map &&& runMask base count) (base + offset) with
    | some t =>
      { s with
        rx.fill := Fill.running
          { runs := (base, count) :: rest, offset := t - base, issued := 0, done := 0, retries := [], waiting := [] } }
    | none => s.moveFill rest 0

/-- The ZERO runs of a plan, in plan order. -/
def zeroRuns (plan : List (Nat × Region)) : List (Nat × Nat) :=
  (plan.filter fun r => r.2.policy == .zero).map fun r => (r.2.base, r.2.count)

/-- The fill starts anew over a plan (R152). DEDUCED (notes/assumptions/38.md). -/
def State.startFill (s : State) (plan : List (Nat × Region)) : State := s.abandonFill.moveFill (zeroRuns plan) 0

/-- The tile the fill stands at. -/
def FillPosition.tile (p : FillPosition) : Nat :=
  match p.runs with
  | (base, _) :: _ => base + p.offset
  | [] => 0

/-- Whether a position has passed a tile: neither the rest of its run nor a later run holds it. -/
def FillPosition.passed (p : FillPosition) (t : Nat) : Bool :=
  match p.runs with
  | (base, count) :: rest =>
    !(decide (base + p.offset ≤ t ∧ t < base + count)) && !(rest.any fun r => decide (r.1 ≤ t ∧ t < r.1 + r.2))
  | [] => true

/-- Whether the fill has passed a tile (R152). -/
def Fill.passed : Fill → Nat → Bool
  | .stopped, _ => false
  | .running p, t => p.passed t
  | .complete, _ => true

/-- The next write of the fill: a line to be written again first, in the order of the answers (R152). DEDUCED
(notes/assumptions/57.md). -/
def FillPosition.next (p : FillPosition) : Option (Nat × Bool) :=
  match p.waiting with
  | l :: _ => some (l, true)
  | [] => if p.issued < Config.tileLines then some (p.issued, false) else none

/-- The next write of the fill, with its tile. -/
def State.nextFill (s : State) : Option (FillPosition × Nat × Bool) :=
  match s.rx.fill with
  | .running p => p.next.map fun n => (p, n)
  | .stopped | .complete => none

/-- The grant of a FILL write. -/
def State.grantFill (s : State) (p : FillPosition) (l : Nat) (again : Bool) : State :=
  let p1 := if again then { p with waiting := p.waiting.drop 1 } else { p with issued := p.issued + 1 }
  State.issue { s with rx.fill := Fill.running p1 }
    (.fill p.tile l) .writeLine (lineAddr p.tile l) 0 0

/-- The fill goes on after the tile it stands at. -/
def State.nextFillTile (s : State) (p : FillPosition) : State := s.moveFill p.runs (p.offset + 1)

/-- A fill write terminates FAULT, or is taken as FAULT: the tile's fill ends (R152). -/
def State.fillFault (s : State) (p : FillPosition) : State :=
  ((s.latch .farFault).abandonOwned fun o => match o with
    | .fill t _ => t == p.tile
    | _ => false).nextFillTile p

/-- The termination of a FILL write (R152). -/
def State.fillTermination (s : State) (t l : Nat) (term : Term) : State :=
  match s.rx.fill with
  | .running p =>
    if p.tile = t then
      match term with
      | .done _ =>
        let p1 := { p with done := p.done + 1, retries := setRetry p.retries l 0 }
        if p1.done = Config.tileLines then (s.makeValid t).nextFillTile p1
        else { s with rx.fill := Fill.running p1 }
      | .fault => s.fillFault p
      | .retry =>
        let n := retryCount p.retries l + 1
        if n = Config.retryLimit then s.fillFault p
        else
          let p1 := { p with retries := setRetry p.retries l n, waiting := p.waiting ++ [l] }
          { s with rx.fill := Fill.running p1 }
    else s
  | .stopped | .complete => s

/-! ### The transfers of the frame in application (R159, R160, R173) -/

/-- The next transfer of the frame in application: one answered RETRY first (R158), several of them in the order of their
answers. DEDUCED (notes/assumptions/58.md). -/
def Applying.next (a : Applying) : Option (Nat × Bool) :=
  match a.waiting with
  | n :: _ => some (n, true)
  | [] => if a.issued < a.total then some (a.issued, false) else none

/-- The next APPLY transfer. -/
def State.nextApply (s : State) : Option (Applying × Nat × Bool) :=
  match s.rx.applying with
  | some a => a.next.map fun n => (a, n)
  | none => none

/-- The grant of an APPLY transfer: a chunk's line write, a mirror's write or a digest's line read. A single-beat mirror goes
out with its frame's mask, empty or not, and a line mirror without one (R160). DEDUCED (notes/assumptions/24.md). -/
def State.grantApply (s : State) (a : Applying) (n : Nat) (again : Bool) : State :=
  let a1 := if again then { a with waiting := a.waiting.drop 1 } else { a with issued := a.issued + 1 }
  let s1 := { s with rx.applying := some a1 }
  match a.body with
  | .tileChunk tile chunk data =>
    s1.issue (.apply n) .writeLine (lineAddr tile.toNat (chunk.toNat * 8 + n)) 0 (chunkLine data n)
  | .mirror addr line mask data =>
    s1.issue (.apply n) (if line then .writeLine else .write) addr (if line then 0 else mask) data
  | .digest tile _ => s1.issue (.apply n) .readLine (lineAddr tile.toNat n) 0 0
  | .plan _ _ _ _ _ | .planEnd | .syncMark | .unsyncMark | .quarantine _ | .abandonTile _ | .handover => s1

/-- All eight writes of a chunk 63 have terminated DONE: an unbroken assembly makes its tile valid and ends (R159). -/
def State.endAssembly (s : State) (t : Nat) : State :=
  match s.rx.assembly with
  | some m =>
    if m.tile = t && m.next = Config.tileChunks && !m.broken then
      State.makeValid { s with rx.assembly := none } t
    else s
  | none => s

/-- DIGEST_RESULT for a finished digest frame (R173). -/
def Applying.result (a : Applying) : Option Report :=
  match a.body with
  | .digest tile value =>
    some (.digestResult a.seq tile
      (if !a.failed && digestOf (bufferLines a.buffer) == value then 0 else 1))
  | _ => a.report

/-- What follows once the last transfer of the frame in application has terminated (R159, R173). -/
def State.endTransfers (s : State) (a : Applying) : State :=
  if a.ended then
    let s1 := { s with rx.applying := some { a with report := a.result } }
    let s2 := match a.body with
      | .tileChunk tile chunk _ => if chunk = 63 && !a.failed then s1.endAssembly tile.toNat else s1
      | _ => s1
    s2.tryFinish
  else { s with rx.applying := some a }

/-- A FAULT on an APPLY transfer, or the 32nd RETRY in a row (R159, R160, R173). The first failed read of a DIGEST takes the
reads not outstanding out of the frame's total.
DEDUCED (notes/assumptions/39.md). -/
def State.applyFault (s : State) (a : Applying) : State :=
  match a.body with
  | .tileChunk tile _ _ =>
    (((s.makeInvalid tile.toNat).breakAssembly).latch .farFault).endTransfers
      { a with done := a.done + 1, failed := true, report := some (.faulted a.seq tile) }
  | .mirror addr _ _ _ =>
    ((s.makeInvalid (tileOf addr)).latch .farFault).endTransfers
      { a with
        done := a.done + 1
        failed := true
        report := some (.faulted a.seq (BitVec.ofNat 32 (tileOf addr))) }
  | .digest _ _ =>
    s.endTransfers
      { a with
        done := a.done + 1
        failed := true
        total := if a.failed then a.total else a.issued - a.waiting.length
        waiting := [] }
  | .plan _ _ _ _ _ | .planEnd | .syncMark | .unsyncMark | .quarantine _ | .abandonTile _ | .handover => s

/-- The termination of APPLY transfer n (R158). -/
def State.applyTermination (s : State) (n : Nat) (term : Term) : State :=
  match s.rx.applying with
  | none => s
  | some a =>
    match term with
    | .done data =>
      s.endTransfers
        { a with
          done := a.done + 1
          retries := setRetry a.retries n 0
          buffer := match a.body with
            | .digest _ _ => a.buffer ++ [(n, data)]
            | _ => a.buffer }
    | .fault => s.applyFault a
    | .retry =>
      let k := retryCount a.retries n + 1
      if k = Config.retryLimit then s.applyFault a
      else
        match a.body, a.failed with
        | .digest _ _, true => s.endTransfers { a with done := a.done + 1 }
        | _, _ =>
          { s with rx.applying := some { a with retries := setRetry a.retries n k, waiting := a.waiting ++ [n] } }

/-! ### Plans (R37, R151) -/

/-- A record of a PLAN frame, if its region number, base tile, policy and flag lie in their ranges and sets (R184). The tile
count is judged at PLAN_END (R151). DEDUCED (notes/assumptions/24.md). -/
def planRecord : OrderedBody → Option (Nat × Region)
  | .plan region base count policy regionEnd =>
    match policyOf policy, boolOf regionEnd with
    | some p, some e =>
      if region.toNat < 32 ∧ base.toNat < Config.tiles then some (region.toNat, ⟨base.toNat, count.toNat, p, e⟩) else none
    | _, _ => none
  | _ => none

/-- A record joins the plan under construction, in the place of one with its region number (R151). -/
def addRecord (rs : List (Nat × Region)) (r : Nat × Region) : List (Nat × Region) :=
  if rs.any fun q => q.1 == r.1 then rs.map fun q => if q.1 = r.1 then r else q else rs ++ [r]

/-- Whether a plan fits a memory size (R151). -/
def recordsFit (rs : List (Nat × Region)) (size : Nat) : Bool :=
  rs.all fun r => decide (1 ≤ r.2.count ∧ r.2.base + r.2.count ≤ size)

/-- The region table that a plan becomes (R37). -/
def planTable (rs : List (Nat × Region)) : Vector (Option Region) 32 :=
  Vector.ofFn fun i => (rs.find? fun r => r.1 == i.val).map fun r => r.2

/-- The region table as numbered records. -/
def Tables.records (tb : Tables) : List (Nat × Region) :=
  (List.range 32).filterMap fun n => (tb.region n).map fun r => (n, r)

/-- The tiles that keep their valid bit at an install in RECEIVING or INSYNC: those with the same policy, other than
SKIP, in both tables (R37); a tile that records share counts under the policy of each. DEDUCED
(notes/assumptions/54.md). -/
def keptTiles (old new : List (Nat × Region)) : TileMap :=
  (policyMask old .copy &&& policyMask new .copy) ||| (policyMask old .late &&& policyMask new .late)
    ||| (policyMask old .zero &&& policyMask new .zero)

/-- A plan that fits is installed: table, valid bits, state, zero fill (R37, R151). -/
def State.installPlan (s : State) : State :=
  let rs := s.rx.planRecords
  let s1 := { s with
    map := if s.rx.state.active then s.map &&& keptTiles s.tables.records rs else s.map
    tables.regions := planTable rs
    rx.planRecords := [] }
  (s1.enterReceiver .receiving).startFill rs

/-! ### Taking a frame for application (R158 to R162, R173, R184) -/

/-- A frame just taken, with no transfer yet. -/
def Applying.start (seq : Seq) (body : OrderedBody) : Applying where
  seq := seq
  body := body
  silent := false
  total := 0
  issued := 0
  done := 0
  retries := []
  waiting := []
  failed := false
  report := none
  buffer := []

/-- The assembly and the valid bit at the taking of chunk c of tile t (R159). Out of sequence the assembly goes on at the
chunk after c, broken. DEDUCED (notes/assumptions/51.md). -/
def State.takeChunk (s : State) (t c : Nat) : State :=
  if c = 0 then State.makeInvalid { s with rx.assembly := some ⟨t, 1, false⟩ } t
  else
    match s.rx.assembly with
    | some m =>
      if m.tile = t && m.next = c then { s with rx.assembly := some { m with next := c + 1 } }
      else State.makeInvalid { s with rx.assembly := some ⟨t, c + 1, true⟩ } t
    | none => State.makeInvalid { s with rx.assembly := some ⟨t, c + 1, true⟩ } t

/-- Whether a tile number names a tile of the window (R184). -/
def tileNamed (t : BitVec 32) : Bool := decide (t.toNat < Config.tiles)

/-- Whether a mirror's address is aligned to its form (R184). -/
def mirrorAligned (addr : Addr) (line : Bool) : Bool :=
  if line then addr.toNat % 64 == 0 else addr.toNat % 16 == 0

/-- Whether a MIRROR is repeated: a valid, unquarantined tile of a COPY or LATE region (R160). -/
def State.mirrorApplies (s : State) (t : Nat) : Bool :=
  (s.tables.policyAt t == .copy || s.tables.policyAt t == .late) && s.bit t && !s.rxQuarantined t

/-- Whether a DIGEST is read: a valid, unquarantined tile of a COPY region (R173). -/
def State.digestApplies (s : State) (t : Nat) : Bool :=
  s.tables.policyAt t == .copy && s.bit t && !s.rxQuarantined t

/-- What a frame does as it is taken in RECEIVING or INSYNC, and the transfers or the report it calls for (R159 to R161,
R173). A frame with a field outside its range has no effect (R184); a MIRROR's mask is not among the fields judged.
DEDUCED (notes/assumptions/24.md). ABANDON_TILE for the tile of the assembly ends it and clears the tile's bit (R36, R161),
and for any other tile has no effect. DEDUCED (notes/assumptions/59.md). -/
def State.startActive (s : State) (a : Applying) : State × Applying :=
  match a.body with
  | .tileChunk tile chunk _ =>
    if tileNamed tile && decide (chunk.toNat < 64) then
      (s.takeChunk tile.toNat chunk.toNat, { a with total := 8 })
    else (s, a)
  | .mirror addr line _ _ =>
    if mirrorAligned addr line then
      if s.mirrorApplies (tileOf addr) then (s, { a with total := 1 })
      else (s, { a with report := some (.faulted a.seq (BitVec.ofNat 32 (tileOf addr))) })
    else (s, a)
  | .digest tile _ =>
    if tileNamed tile then
      if s.digestApplies tile.toNat then (s, { a with total := Config.tileLines })
      else (s, { a with report := some (.digestResult a.seq tile 1) })
    else (s, a)
  | .syncMark =>
    if s.rx.state = .receiving then
      if s.rx.fill = .complete then (s.enterReceiver .insync, a) else ({ s with rx.syncPending := true }, a)
    else (s, a)
  | .unsyncMark =>
    if s.rx.state = .insync then (s.enterReceiver .receiving, a) else ({ s with rx.syncPending := false }, a)
  | .quarantine tile =>
    if tileNamed tile then
      if !s.rxQuarantined tile.toNat && decide (s.rx.quarantine.length < Config.faultLimit) then
        (State.dropDemand { s with rx.quarantine := s.rx.quarantine ++ [tile.toNat] } tile.toNat, a)
      else (s, a)
    else (s, a)
  | .abandonTile tile =>
    match s.rx.assembly with
    | some m =>
      if m.tile = tile.toNat then (State.makeInvalid { s with rx.assembly := none } tile.toNat, a) else (s, a)
    | none => (s, a)
  | .plan _ _ _ _ _ | .planEnd | .handover => (s, a)

/-- PLAN and PLAN_END, outside LIVE (R151). -/
def State.startPlan (s : State) (a : Applying) : State × Applying :=
  match a.body with
  | .plan _ _ _ _ _ =>
    match planRecord a.body with
    | some r => ({ s with rx.planRecords := addRecord s.rx.planRecords r }, a)
    | none => (s, a)
  | .planEnd =>
    if recordsFit s.rx.planRecords s.mgmt.size then
      (s.installPlan, { a with report := some (.planAck s.rx.held) })
    else ({ s with rx.planRecords := [] }, { a with report := some (.planRefuse 1) })
  | _ => (s, a)

/-- What a frame does as it is taken (R158). DEDUCED (notes/assumptions/35.md). -/
def State.startFrame (s : State) (a : Applying) : State × Applying :=
  match s.rx.state, a.body with
  | .live, _ => (s, a)
  | _, .plan _ _ _ _ _ => s.startPlan a
  | _, .planEnd => s.startPlan a
  | .idle, _ => (s, a)
  | .receiving, _ => s.startActive a
  | .insync, _ => s.startActive a

/-- How many reports a frame may hand, an APPLIED among them (R158). -/
def mayHand : OrderedBody → Nat
  | .tileChunk _ _ _ | .mirror _ _ _ _ | .digest _ _ | .planEnd => 2
  | .plan _ _ _ _ _ | .syncMark | .unsyncMark | .quarantine _ | .abandonTile _ | .handover => 1

/-- Leading markers are reached and dropped, each ending any assembly (R157). DEDUCED (notes/assumptions/36.md). -/
def State.dropMarkers (s : State) : State :=
  match s.rx.buffer with
  | .marker _ :: _ =>
    { s with
      rx.assembly := none
      rx.buffer := s.rx.buffer.dropWhile fun i => !i.isFrame }
  | _ => s

/-- The applier takes the frame at the head of the buffer, where the report list has room for all that it may hand (R138,
R158). DEDUCED (notes/assumptions/34.md). -/
def State.takeFrame (s : State) : State :=
  match s.rx.buffer with
  | .frame seq body :: rest =>
    if !s.link.state.isOpen || s.link.hasRoom (mayHand body) then
      let s1 := State.giveCredit { s with rx.buffer := rest } 1
      let (s2, a) := s1.startFrame (Applying.start seq body)
      State.tryFinish { s2 with rx.applying := some a }
    else s
  | _ => s

/-! ### BEGIN, ABANDON and link loss (R150, R154, R155) -/

/-- BEGIN is taken, whatever number it carries; with number 0 no campaign is held after it (R150).
DEDUCED (notes/assumptions/24.md). -/
def State.takeBegin (s : State) (number first : Seq) : State :=
  let s1 := (s.abandonApplying).discardBuffer
  let s2 := State.emptyReceiver { s1.setHeld number with rx.seen := first, rx.discard := false }
  let s3 := { s2 with map := 0 }
  if s3.rx.state = .insync then s3.enterReceiver .receiving else s3

/-- ABANDON, or a HELLO taken as one (R154). -/
def State.takeAbandon (s : State) : State :=
  if s.rx.state.active || (s.rx.state == .idle && s.streamOpen) then
    let s1 := (s.abandonApplying).discardBuffer
    let s2 := State.emptyReceiver (s1.setHeld 0)
    State.enterReceiver { s2 with map := 0 } .idle
  else s

/-- A link loss on the receiver (R155). What R155 does not name is kept: the plan under construction, the sync pending flag,
the seen point and the discard flag. DEDUCED (notes/assumptions/61.md). -/
def State.receiverLinkLoss (s : State) : State :=
  State.tryFinish
    { s with
      rx.applying := s.rx.applying.map fun a => { a with silent := true }
      rx.buffer := []
      rx.assembly := none
      rx.appliedCount := 0 }

/-! ### The demand table (R165) -/

/-- The demand handling of a read judged under line 8 (R165). -/
def State.demandRead (s : State) (t : Nat) : State :=
  if s.rx.demands.any fun d => d.tile == t then s
  else if s.rx.demands.length < Config.demandLimit && s.link.hasRoom 1 then
    State.hand { s with rx.demands := s.rx.demands ++ [⟨t, some (s.cfg.demandWait * 1000)⟩] }
      (.demand (BitVec.ofNat 32 t))
  else s

/-- The expiry of a demand table entry (R165). -/
def State.demandExpire (s : State) (t : Nat) : State :=
  let s1 := s.latch .demandTimeout
  let room := if s1.rx.expired.length < Config.demandLimit then s1.rx.expired else s1.rx.expired.drop 1
  { s1 with
    rx.demands := s1.rx.demands.filter fun d => d.tile != t
    rx.expired := room ++ [t] }

end Sys2Proof.Machine
end

