-- ==== Sys2Proof/Machine/LinkOps.lean ====
section
/-! DEFINITION. The replica link's shared operations: entry to DOWN, training, entry to UP, good frames, peer departure,
bad frames and the transmitter (chapter 8). -/

namespace Sys2Proof.Machine

/-! ### Entry to DOWN (R129) -/

/-- The link's own state at an entry to DOWN: steps 1 to 4 (R129). -/
def Link.down (l : Link) : Link :=
  { l with
    state := .down
    quiet := some Config.quietTime
    silence := none
    blanking := none
    offTime := none
    hello := none
    burst := 0
    peer := none
    departure := false
    control := []
    reports := []
    creditTotal := 0
    creditTaken := 0
    sentTotal := 0
    keepaliveDue := false }

/-- The link enters DOWN; from UP and COOLDOWN LINK_LOST is latched and the loss is handed on (R119, R129, R157). -/
def State.linkDown (s : State) : State :=
  let s1 := { s with
    link := s.link.down
    txq.credits := 0
    rx.arrived := 0
    rx.lossCredited := 0 }
  if s.link.state.isOpen then
    let s2 := s1.latch .linkLost
    match s.mgmt.role with
    | .sender => s2.campaignLinkLoss
    | .receiver => s2.receiverLinkLoss
  else s1

/-! ### Training, BLANKING and UP (R130, R132, R134) -/

/-- The link enters TRAINING if it is DOWN and enabled, its quiet time is over, both receive lanes show signal and the
part is out of reset (R130, R183). -/
def State.tryTrain (s : State) : State :=
  if s.link.state = .down && s.cfg.linkEnable && s.link.quiet.isNone && s.link.signal0 && s.link.signal1
      && !s.mgmt.inReset then
    { s with link.state := .training, link.silence := some Config.silenceTime }
  else s

/-- What the transmit lanes carry: nothing in a reset, in the quiet time of DOWN and on a disabled link; the training
pattern in DOWN once the quiet time of an enabled link is over, and in TRAINING; frames from BLANKING on (R129, R130,
R183). -/
def State.lanes (s : State) : LaneOutput :=
  if s.mgmt.inReset then .quiet
  else
    match s.link.state with
    | .down => if s.cfg.linkEnable && s.link.quiet.isNone then .pattern else .quiet
    | .training => .pattern
    | .blanking | .up | .cooldown => .frames

/-- The state code of the part's role (12.4). -/
def State.stateCode (s : State) : Byte :=
  match s.mgmt.role with
  | .sender => s.camp.state.code
  | .receiver => s.rx.state.code

/-- The campaign number a part reports (R140). -/
def State.campaignNumber (s : State) : Seq :=
  match s.mgmt.role with
  | .sender => s.camp.number
  | .receiver => s.rx.held

/-- The content of a HELLO sent now (R140, R142). DEDUCED (notes/assumptions/19.md). -/
def State.helloBody (s : State) : HelloBody where
  role := s.mgmt.role.code
  identity := s.mgmt.identity
  size := BitVec.ofNat 32 s.mgmt.size
  number := s.campaignNumber
  state := s.stateCode
  total := match s.mgmt.role with
    | .sender => 0
    | .receiver => s.link.creditTotal

/-- Entry to UP from BLANKING (R119, R132, R142, R157), with the relink decision it may bring (R76). -/
def State.enterUp (s : State) : State :=
  let s1 := { s with
    link := { s.link with
      state := .up
      blanking := none
      hello := some Config.helloTime
      creditTotal := 0
      creditTaken := 0
      sentTotal := 0 }
    txq.credits := Config.creditLimit
    rx.arrived := 0
    rx.lossCredited := 0 }
  State.tryRelink (s1.raiseControl .hello)

/-! ### Good frames (R131, R133, R136) -/

/-- A good frame restarts the silence timer and resets the burst count (R131, R133). -/
def State.goodFrame (s : State) : State :=
  { s with link.silence := s.link.silence.map fun _ => Config.silenceTime, link.burst := 0 }

/-- A good frame of a kind that the given role takes in UP and COOLDOWN. In BLANKING, or on a part of the other role, it
is discarded; in DOWN and TRAINING no frame is accepted (R132, R136). DEDUCED (notes/assumptions/22.md). -/
def State.onFrame (s : State) (role : Role) (f : State → State) : State :=
  match s.link.state with
  | .down | .training => s
  | .blanking => s.goodFrame
  | .up | .cooldown => if s.mgmt.role = role then f s.goodFrame else s.goodFrame

/-- Whether a state code names a state of a role (12.4). -/
def stateNamed (role : Role) (code : Byte) : Bool :=
  match role with
  | .sender => decide (code.toNat ≤ 13)
  | .receiver => decide (code.toNat ≤ 3)

/-- The peer record a HELLO makes, if its fields lie in their ranges (R141, R184).
DEDUCED (notes/assumptions/24.md). -/
def peerOf (b : HelloBody) : Option PeerRecord :=
  match roleOf b.role with
  | some role =>
    if 1 ≤ b.size.toNat ∧ b.size.toNat ≤ Config.tiles ∧ stateNamed role b.state = true then
      some {
        role := role
        identity := b.identity
        size := b.size.toNat
        number := b.number
        state := b.state
        total := b.total }
    else none
  | none => none

/-- The sender states in which a HELLO can be a peer departure (R141). -/
def SenderState.needsPeer : SenderState → Bool
  | .sweep | .settle | .mirror | .audit | .insync | .freeze | .drain => true
  | .idle | .armed | .delay | .plan | .handedOver | .stalled | .ending => false

/-- Whether a HELLO is a peer departure on the sender (R141). -/
def State.departs (s : State) (p : PeerRecord) : Bool :=
  s.mgmt.role == .sender && s.camp.state.needsPeer
    && (p.role != .receiver || p.number != s.camp.number || p.state == ReceiverState.idle.code)

/-- What a good HELLO does on the sender: a departure in UP, else credit recovery and the relink decision (R141, R142,
R76). -/
def State.senderHello (s : State) (p : PeerRecord) : State :=
  if s.link.state = .up && s.departs p then s.linkDown
  else (s.recoverCredit p.total).tryRelink

/-- What a good HELLO does on the receiver (R154). -/
def State.receiverHello (s : State) (p : PeerRecord) : State :=
  if p.role = .sender && (p.state == SenderState.idle.code || p.state == SenderState.armed.code
      || p.number != s.rx.held) then s.takeAbandon
  else s

/-- A good HELLO is taken: it replaces the peer record, and a departure that it reports in COOLDOWN is noted for the
return to UP (R141). -/
def State.takeHello (s : State) (b : HelloBody) : State :=
  match peerOf b with
  | none => s
  | some p =>
    let s1 := { s with link.peer := some p, link.departure := s.link.state == LinkState.cooldown && s.departs p }
    match s1.mgmt.role with
    | .sender => s1.senderHello p
    | .receiver => s1.receiverHello p

/-! ### Bad frames (R133, R136, R143) -/

/-- A bad frame counts toward a burst in UP; the fourth in a row gives COOLDOWN (R133). -/
def State.countBad (s : State) : State :=
  if s.link.state = .up then
    if s.link.burst + 1 < Config.burstLimit then { s with link.burst := s.link.burst + 1 }
    else
      State.latch
        { s with link.state := .cooldown, link.burst := 0, link.offTime := some s.cfg.offTime.time } .linkBurst
  else s

/-- A bad frame on the sender with frames recorded starts loss handling (R143). -/
def State.loseBad (s : State) : State :=
  if s.mgmt.role = .sender && s.link.state.isOpen then s.loseOldest else s

/-! ### The transmitter (R137 to R139, R142) -/

/-- Whether the link state lets a control list frame leave (R137). -/
def Control.sendable (st : LinkState) : Control → Bool
  | .hello => st.isOpen || st == .blanking
  | .beginCampaign _ _ _ | .resume _ _ | .abandon _ _ => st.isOpen

/-- The frame a control list entry becomes as it leaves; BEGIN and RESUME carry the next sequence number as it then
stands (R116, R140). -/
def State.controlFrame (s : State) : Control → Frame
  | .hello => .hello s.helloBody
  | .beginCampaign number identity _ => .beginCampaign number identity s.txq.nextSeq
  | .resume number _ => .resume number s.txq.nextSeq
  | .abandon reason _ => .abandon reason.code

/-- The control list after a frame of it has left: an ABANDON stays until its last copy (R137). -/
def controlSent (c : Control) (l : List Control) : List Control :=
  match c with
  | .abandon reason (k + 2) => l.map fun d => if c.sameKind d then .abandon reason (k + 1) else d
  | _ => l.filter fun d => !c.sameKind d

/-- A frame of the control list is sent. -/
def State.sendControl (s : State) (c : Control) : State :=
  State.send { s with link.control := controlSent c s.link.control } (s.controlFrame c)

/-- The sender's next frame: the control list goes in its order of raising, so a HELLO, BEGIN or RESUME raised before an
ABANDON leaves ahead of its copies (R137, R146). DEDUCED (notes/assumptions/47.md). -/
def State.transmitSender (s : State) : State :=
  match s.link.control.find? (Control.sendable s.link.state) with
  | some c => s.sendControl c
  | none =>
    match (if s.link.state = .up then s.txq.resync else none) with
    | some number => State.send { s with txq.resync := none } (.resync number s.link.sentTotal)
    | none =>
      match s.transmitOrdered with
      | some t => t
      | none => if s.link.keepaliveDue && s.link.state.isOpen then s.send (.keepalive 0) else s

/-- The credit total rises as a CREDIT leaves (R142). -/
def creditLeaving (total : Seq) : Report → Seq
  | .credit n => total + BitVec.ofNat 16 n.toNat
  | _ => total

/-- The receiver's next frame (R138); a place freed in the report list lets a frame that waited for it be applied. A
KEEPALIVE that is due leaves behind every report that waits. DEDUCED (notes/assumptions/52.md). -/
def State.transmitReceiver (s : State) : State :=
  match s.link.control.find? (Control.sendable s.link.state) with
  | some c => s.sendControl c
  | none =>
    match (if s.link.state.isOpen then s.link.reports else []) with
    | r :: rest =>
      State.tryFinish (State.send
        { s with link.reports := rest, link.creditTotal := creditLeaving s.link.creditTotal r } (.report r))
    | [] => if s.link.keepaliveDue && s.link.state.isOpen then s.send (.keepalive s.link.creditTotal) else s

/-- The transmitter sends the next frame that is ready (R137, R138). -/
def State.transmitNext (s : State) : State :=
  match s.mgmt.role with
  | .sender => s.transmitSender
  | .receiver => s.transmitReceiver

end Sys2Proof.Machine
end

