-- ==== Sys2Proof/Machine/Formats.lean ====
section
/-! DEFINITION. The formats of chapter 12: the bytes of every frame with its CRC-32, the command a received frame or a
management message spells, and the bytes of replies and their data. -/

namespace Sys2Proof.Machine

/-! ### CRC-32 (8.2) -/

/-- One bit of the CRC register, least significant bit first: the generator 04C11DB7h mirrored. -/
def crcBit (r : BitVec 32) : BitVec 32 :=
  if r.getLsbD 0 then (r >>> 1) ^^^ 0xedb88320#32 else r >>> 1

/-- One byte of the CRC register. -/
def crcByte (r : BitVec 32) (b : Byte) : BitVec 32 :=
  crcBit (crcBit (crcBit (crcBit (crcBit (crcBit (crcBit (crcBit (r ^^^ b.setWidth 32))))))))

/-- The CRC-32 of a frame's kind and content: the register preset to all ones, the result complemented (8.2).
PRESUMED (notes/assumptions/23.md). -/
def crc32 (bs : List Byte) : BitVec 32 := ~~~ (bs.foldl crcByte 0xffffffff#32)

/-! ### The bytes of frames (12.2) -/

/-- The kind byte of an ordered frame. -/
def bodyKind : OrderedBody → Byte
  | .plan _ _ _ _ _ => 0x10
  | .planEnd => 0x11
  | .tileChunk _ _ _ => 0x12
  | .mirror _ _ _ _ => 0x13
  | .digest _ _ => 0x14
  | .syncMark => 0x15
  | .unsyncMark => 0x16
  | .quarantine _ => 0x17
  | .abandonTile _ => 0x18
  | .handover => 0x19

/-- What follows the sequence number of an ordered frame. -/
def bodyBytes : OrderedBody → List Byte
  | .plan region base count policy regionEnd =>
    [region] ++ leBytes 4 base.toNat ++ leBytes 4 count.toNat ++ [policy, regionEnd]
  | .planEnd => []
  | .tileChunk tile chunk data => leBytes 4 tile.toNat ++ [chunk] ++ leBytes 512 data.toNat
  | .mirror addr line mask data =>
    leBytes 4 addr.toNat ++ [boolByte line] ++ leBytes 2 mask.toNat ++ leBytes (if line then 64 else 16) data.toNat
  | .digest tile value => leBytes 4 tile.toNat ++ leBytes 4 value.toNat
  | .syncMark => []
  | .unsyncMark => []
  | .quarantine tile => leBytes 4 tile.toNat
  | .abandonTile tile => leBytes 4 tile.toNat
  | .handover => []

/-- The kind byte and the content of a report. -/
def reportBytes : Report → Byte × List Byte
  | .planAck n => (0x20, leBytes 2 n.toNat)
  | .planRefuse r => (0x21, [r])
  | .resumeAck n => (0x22, leBytes 2 n.toNat)
  | .resumeRefuse n => (0x23, leBytes 2 n.toNat)
  | .applied n => (0x24, leBytes 2 n.toNat)
  | .gap n => (0x25, leBytes 2 n.toNat)
  | .faulted n t => (0x26, leBytes 2 n.toNat ++ leBytes 4 t.toNat)
  | .digestResult n t r => (0x27, leBytes 2 n.toNat ++ leBytes 4 t.toNat ++ [r])
  | .demand t => (0x28, leBytes 4 t.toNat)
  | .credit n => (0x29, [n])

/-- The kind byte and the content of a frame (12.2). -/
def frameParts : Frame → Byte × List Byte
  | .hello b =>
    (0x01, [b.role] ++ leBytes 8 b.identity.toNat ++ leBytes 4 b.size.toNat ++ leBytes 2 b.number.toNat ++ [b.state]
      ++ leBytes 2 b.total.toNat)
  | .keepalive t => (0x02, leBytes 2 t.toNat)
  | .beginCampaign n i f => (0x03, leBytes 2 n.toNat ++ leBytes 8 i.toNat ++ leBytes 2 f.toNat)
  | .resume n x => (0x04, leBytes 2 n.toNat ++ leBytes 2 x.toNat)
  | .abandon r => (0x05, [r])
  | .ordered seq body => (bodyKind body, leBytes 2 seq.toNat ++ bodyBytes body)
  | .resync n t => (0x1f, leBytes 2 n.toNat ++ leBytes 2 t.toNat)
  | .report r => reportBytes r

/-- Every byte of a frame, its CRC least significant byte first (12.2). -/
def frameBytes (f : Frame) : List Byte :=
  let bs := (frameParts f).1 :: (frameParts f).2
  bs ++ leBytes 4 (crc32 bs).toNat

/-! ### The command a received frame spells (R136, R184) -/

/-- The number in the k bytes from place i. -/
def fieldAt (i k : Nat) (bs : List Byte) : Nat := leNat ((bs.drop i).take k)

/-- The k-byte field from place i, as a word. -/
def wordAt (w i k : Nat) (bs : List Byte) : BitVec w := BitVec.ofNat w (fieldAt i k bs)

/-- An ordered frame's body: the content after its sequence number, if its length is that of its kind (R184). -/
def readBody (kind : Nat) (bs : List Byte) : Option OrderedBody :=
  match kind with
  | 0x10 =>
    if bs.length = 11 then
      some (.plan (wordAt 8 0 1 bs) (wordAt 32 1 4 bs) (wordAt 32 5 4 bs) (wordAt 8 9 1 bs) (wordAt 8 10 1 bs))
    else none
  | 0x11 => if bs.length = 0 then some .planEnd else none
  | 0x12 =>
    if bs.length = 517 then some (.tileChunk (wordAt 32 0 4 bs) (wordAt 8 4 1 bs) (wordAt 4096 5 512 bs)) else none
  | 0x13 =>
    if bs.length = 23 ∧ fieldAt 4 1 bs = 0 then
      some (.mirror (wordAt 32 0 4 bs) false (wordAt 16 5 2 bs) (wordAt 512 7 16 bs))
    else if bs.length = 71 ∧ fieldAt 4 1 bs = 1 then
      some (.mirror (wordAt 32 0 4 bs) true (wordAt 16 5 2 bs) (wordAt 512 7 64 bs))
    else none
  | 0x14 => if bs.length = 8 then some (.digest (wordAt 32 0 4 bs) (wordAt 32 4 4 bs)) else none
  | 0x15 => if bs.length = 0 then some .syncMark else none
  | 0x16 => if bs.length = 0 then some .unsyncMark else none
  | 0x17 => if bs.length = 4 then some (.quarantine (wordAt 32 0 4 bs)) else none
  | 0x18 => if bs.length = 4 then some (.abandonTile (wordAt 32 0 4 bs)) else none
  | 0x19 => if bs.length = 0 then some .handover else none
  | _ => none

/-- An unordered frame, or RESYNC, if its length is that of its kind (R184). -/
def readUnordered (kind : Nat) (bs : List Byte) : Option Instr :=
  match kind with
  | 0x01 =>
    if bs.length = 18 then
      some (.hello ⟨wordAt 8 0 1 bs, wordAt 64 1 8 bs, wordAt 32 9 4 bs, wordAt 16 13 2 bs, wordAt 8 15 1 bs,
        wordAt 16 16 2 bs⟩)
    else none
  | 0x02 => if bs.length = 2 then some (.keepalive (wordAt 16 0 2 bs)) else none
  | 0x03 =>
    if bs.length = 12 then some (.beginFrame (wordAt 16 0 2 bs) (wordAt 64 2 8 bs) (wordAt 16 10 2 bs)) else none
  | 0x04 => if bs.length = 4 then some (.resumeFrame (wordAt 16 0 2 bs) (wordAt 16 2 2 bs)) else none
  | 0x05 => if bs.length = 1 then some (.abandon (wordAt 8 0 1 bs)) else none
  | 0x1f => if bs.length = 4 then some (.resync (wordAt 16 0 2 bs) (wordAt 16 2 2 bs)) else none
  | 0x20 => if bs.length = 2 then some (.planAck (wordAt 16 0 2 bs)) else none
  | 0x21 => if bs.length = 1 then some (.planRefuse (wordAt 8 0 1 bs)) else none
  | 0x22 => if bs.length = 2 then some (.resumeAck (wordAt 16 0 2 bs)) else none
  | 0x23 => if bs.length = 2 then some (.resumeRefuse (wordAt 16 0 2 bs)) else none
  | 0x24 => if bs.length = 2 then some (.applied (wordAt 16 0 2 bs)) else none
  | 0x25 => if bs.length = 2 then some (.gap (wordAt 16 0 2 bs)) else none
  | 0x26 => if bs.length = 6 then some (.faulted (wordAt 16 0 2 bs) (wordAt 32 2 4 bs)) else none
  | 0x27 =>
    if bs.length = 7 then some (.digestResult (wordAt 16 0 2 bs) (wordAt 32 2 4 bs) (wordAt 8 6 1 bs)) else none
  | 0x28 => if bs.length = 4 then some (.demand (wordAt 32 0 4 bs)) else none
  | 0x29 => if bs.length = 1 then some (.credit (wordAt 8 0 1 bs)) else none
  | _ => none

/-- The command of a good frame: UNDEFINED_FRAME for a kind the table does not define or a wrong length (R184). -/
def goodCommand (kind : Byte) (content : List Byte) : Instr :=
  match readUnordered kind.toNat content with
  | some i => i
  | none =>
    if 2 ≤ content.length then
      match readBody kind.toNat (content.drop 2) with
      | some body => .orderedFrameArrival (wordAt 16 0 2 content) body
      | none => .undefinedFrame kind content
    else .undefinedFrame kind content

/-- The command that the arrival of a frame's bytes is: BAD_FRAME if its CRC does not match (R136, R184), and if the bytes
leave no kind byte ahead of a CRC. DEDUCED (notes/assumptions/62.md). -/
def frameCommand (bs : List Byte) : Instr :=
  match bs.take (bs.length - 4) with
  | [] => .badFrame
  | kind :: content =>
    if leNat (bs.drop (bs.length - 4)) = (crc32 (kind :: content)).toNat then goodCommand kind content else .badFrame

/-- The command that the peer's frame is when it arrives. -/
def frameArrival : Frame → Instr
  | .hello b => .hello b
  | .keepalive t => .keepalive t
  | .beginCampaign n i f => .beginFrame n i f
  | .resume n x => .resumeFrame n x
  | .abandon r => .abandon r
  | .ordered seq body => .orderedFrameArrival seq body
  | .resync n t => .resync n t
  | .report r =>
    match r with
    | .planAck n => .planAck n
    | .planRefuse r => .planRefuse r
    | .resumeAck n => .resumeAck n
    | .resumeRefuse n => .resumeRefuse n
    | .applied n => .applied n
    | .gap n => .gap n
    | .faulted n t => .faulted n t
    | .digestResult n t r => .digestResult n t r
    | .demand t => .demand t
    | .credit n => .credit n

/-! ### Management messages (12.3, R185) -/

/-- SET_TUNING's arguments from their 26 bytes. -/
def readTuning (a : List Byte) : TuningArgs where
  startDelay := wordAt 16 0 2 a
  settleDelay := wordAt 16 2 2 a
  holdBudget := wordAt 32 4 4 a
  audit := wordAt 8 8 1 a
  cueAbort := wordAt 8 9 1 a
  mirrorThreshold := wordAt 32 10 4 a
  passLimit := wordAt 16 14 2 a
  nonConvergence := wordAt 8 16 1 a
  stallRatio := wordAt 16 17 2 a
  step := wordAt 8 19 1 a
  ceiling := wordAt 8 20 1 a
  overflow := wordAt 8 21 1 a
  stallLimit := wordAt 16 22 2 a
  applyTimeout := wordAt 8 24 1 a
  demandWait := wordAt 8 25 1 a

/-- The command of a code with arguments, if the code is defined and the length is its own (12.3). -/
def readCommand (code : Nat) (a : List Byte) : Option Instr :=
  match code with
  | 0x01 => if a.length = 1 then some (.setRole (wordAt 8 0 1 a)) else none
  | 0x02 => if a.length = 4 then some (.setSize (wordAt 32 0 4 a)) else none
  | 0x03 => if a.length = 8 then some (.setIdentity (wordAt 64 0 8 a)) else none
  | 0x10 =>
    if a.length = 11 then
      some (.loadRegion (wordAt 8 0 1 a) (wordAt 32 1 4 a) (wordAt 32 5 4 a) (wordAt 8 9 1 a) (wordAt 8 10 1 a))
    else none
  | 0x11 => if a.length = 1 then some (.clearRegion (wordAt 8 0 1 a)) else none
  | 0x12 =>
    match a with
    | bank :: count :: entries => if entries.length = count.toNat then some (.loadBank bank entries) else none
    | _ => none
  | 0x13 => if a.length = 1 then some (.selectBank (wordAt 8 0 1 a)) else none
  | 0x20 => if a.length = 26 then some (.setTuning (readTuning a)) else none
  | 0x21 => if a.length = 1 then some (.setShare (wordAt 8 0 1 a)) else none
  | 0x22 =>
    if a.length = 5 then
      some (.setLines (wordAt 8 0 1 a) (wordAt 8 1 1 a) (wordAt 8 2 1 a) (wordAt 16 3 2 a))
    else none
  | 0x23 =>
    if a.length = 6 then
      some (.setLink (wordAt 8 0 1 a) (wordAt 8 1 1 a) (wordAt 8 2 1 a) (wordAt 8 3 1 a) (wordAt 16 4 2 a))
    else none
  | 0x30 => if a.length = 0 then some .arm else none
  | 0x31 => if a.length = 0 then some .disarm else none
  | 0x32 => if a.length = 0 then some .start else none
  | 0x33 => if a.length = 0 then some .breakCmd else none
  | 0x34 => if a.length = 0 then some .resumeCmd else none
  | 0x35 => if a.length = 1 then some (.abort (wordAt 8 0 1 a)) else none
  | 0x36 => if a.length = 0 then some .handover else none
  | 0x40 => if a.length = 2 then some (.clearLatches (wordAt 16 0 2 a)) else none
  | 0x41 => if a.length = 0 then some .readStatus else none
  | 0x42 => if a.length = 0 then some .readCounters else none
  | 0x43 => if a.length = 1 then some (.readRegion (wordAt 8 0 1 a)) else none
  | 0x44 => if a.length = 1 then some (.readBank (wordAt 8 0 1 a)) else none
  | 0x45 => if a.length = 0 then some .readFaults else none
  | 0x46 => if a.length = 0 then some .readExit else none
  | 0x50 => if a.length = 0 then some .softReset else none
  | _ => none

/-- The command a management message is: its code, the number of argument bytes and the arguments. One that spells no
command of the table is UNKNOWN_COMMAND (R175, R185). DEDUCED (notes/assumptions/45.md). -/
def messageCommand (bs : List Byte) : Instr :=
  match bs with
  | code :: len :: args =>
    if args.length = len.toNat then
      match readCommand code.toNat args with
      | some i => i
      | none => .unknownCommand code args
    else .unknownCommand code args
  | code :: [] => .unknownCommand code []
  | [] => .unknownCommand 0 []

/-- The argument bytes of SET_TUNING (12.3). -/
def tuningArgBytes (a : TuningArgs) : List Byte :=
  leBytes 2 a.startDelay.toNat ++ leBytes 2 a.settleDelay.toNat ++ leBytes 4 a.holdBudget.toNat
    ++ [a.audit, a.cueAbort] ++ leBytes 4 a.mirrorThreshold.toNat ++ leBytes 2 a.passLimit.toNat ++ [a.nonConvergence]
    ++ leBytes 2 a.stallRatio.toNat ++ [a.step, a.ceiling, a.overflow] ++ leBytes 2 a.stallLimit.toNat
    ++ [a.applyTimeout, a.demandWait]

/-- The code and the argument bytes of a management command; none for a command that is no message (12.3). -/
def commandParts : Instr → Option (Byte × List Byte)
  | .nearTransfer _ _ _ _ _ => none
  | .arbiterGrant => none
  | .farTermination _ _ => none
  | .pairHoldExpiry _ => none
  | .stallLimitExpiry => none
  | .setRole role => some (0x01, [role])
  | .setSize size => some (0x02, leBytes 4 size.toNat)
  | .setIdentity identity => some (0x03, leBytes 8 identity.toNat)
  | .loadRegion region base count policy regionEnd => some (0x10, [region] ++ leBytes 4 base.toNat ++ leBytes 4 count.toNat ++ [policy, regionEnd])
  | .clearRegion region => some (0x11, [region])
  | .loadBank bank entries => some (0x12, bank :: BitVec.ofNat 8 entries.length :: entries)
  | .selectBank bank => some (0x13, [bank])
  | .setTuning args => some (0x20, tuningArgBytes args)
  | .setShare share => some (0x21, [share])
  | .setLines cueMode paceEnable eventMask alertMask => some (0x22, [cueMode, paceEnable, eventMask] ++ leBytes 2 alertMask.toNat)
  | .setLink enable blanking offTime relink peerWait => some (0x23, [enable, blanking, offTime, relink] ++ leBytes 2 peerWait.toNat)
  | .arm => some (0x30, [])
  | .disarm => some (0x31, [])
  | .start => some (0x32, [])
  | .breakCmd => some (0x33, [])
  | .resumeCmd => some (0x34, [])
  | .abort kind => some (0x35, [kind])
  | .handover => some (0x36, [])
  | .clearLatches conditions => some (0x40, leBytes 2 conditions.toNat)
  | .readStatus => some (0x41, [])
  | .readCounters => some (0x42, [])
  | .readRegion region => some (0x43, [region])
  | .readBank bank => some (0x44, [bank])
  | .readFaults => some (0x45, [])
  | .readExit => some (0x46, [])
  | .softReset => some (0x50, [])
  | .unknownCommand code args => some (code, args)
  | .powerOn _ => none
  | .warmReset => none
  | .cueEdge _ => none
  | .paceChange _ => none
  | .startDelayExpiry => none
  | .planWaitExpiry => none
  | .settleExpiry => none
  | .passEnd => none
  | .passClose => none
  | .auditPassEnd => none
  | .heldRegionQuiet => none
  | .freezeRegionComplete => none
  | .handoverQueued => none
  | .holdBudgetExpiry => none
  | .endingClose => none
  | .peerWaitExpiry => none
  | .resumeRepeat => none
  | .resumeWaitExpiry => none
  | .hello _ => none
  | .keepalive _ => none
  | .planAck _ => none
  | .planRefuse _ => none
  | .resumeAck _ => none
  | .resumeRefuse _ => none
  | .applied _ => none
  | .gap _ => none
  | .applyTimeout => none
  | .faulted _ _ => none
  | .digestResult _ _ _ => none
  | .demand _ => none
  | .credit _ => none
  | .badFrame => none
  | .undefinedFrame _ _ => none
  | .beginFrame _ _ _ => none
  | .resumeFrame _ _ => none
  | .abandon _ => none
  | .resync _ _ => none
  | .orderedFrameArrival _ _ => none
  | .applierTake => none
  | .demandWaitExpiry _ => none
  | .transmit => none
  | .keepaliveDue => none
  | .helloTimerExpiry => none
  | .blankingHelloTimer => none
  | .lossOfSignal _ => none
  | .silenceExpiry => none
  | .quietTimeExpiry => none
  | .laneSignal => none
  | .trained => none
  | .blankingEnd => none
  | .offTimeEnd => none
  | .evtPulseEnd => none
  | .evtGuardEnd => none
  | .resetNHigh => none

/-- The bytes of a command message: code, argument length, arguments (12.3). -/
def messageBytes (i : Instr) : Option (List Byte) :=
  (commandParts i).map fun p => p.1 :: BitVec.ofNat 8 p.2.length :: p.2

/-- The bytes of a reply message: status, data length 2, data (12.3). -/
def replyBytes (r : Reply) : List Byte := [r.status.code] ++ leBytes 2 r.data.length ++ r.data

/-! ### Echoes and read data (R178, R185) -/

/-- The settings that SET_TUNING writes, in its own layout. -/
def Settings.tuningBytes (c : Settings) : List Byte :=
  leBytes 2 c.startDelay ++ leBytes 2 c.settleDelay ++ leBytes 4 c.holdBudget ++ [boolByte c.audit, c.cueAbort.code]
    ++ leBytes 4 c.mirrorThreshold ++ leBytes 2 c.passLimit ++ [c.nonConvergence.code] ++ leBytes 2 c.stallRatio
    ++ leBytes 1 c.step ++ leBytes 1 c.ceiling ++ [c.overflow.code] ++ leBytes 2 c.stallLimit
    ++ leBytes 1 c.applyTimeout ++ leBytes 1 c.demandWait

/-- The settings that SET_LINES writes, in its own layout. -/
def Settings.linesBytes (c : Settings) : List Byte :=
  [c.cueMode.code, boolByte c.paceEnable] ++ leBytes 1 c.eventMask.toNat ++ leBytes 2 c.alertMask.toNat

/-- The settings that SET_LINK writes, in its own layout. -/
def Settings.linkBytes (c : Settings) : List Byte :=
  [boolByte c.linkEnable, c.blanking.code, c.offTime.code, c.relink.code] ++ leBytes 2 c.peerWait

/-- An item that may be absent, as a list of none or one. DESIGN CHOICE (notes/assumptions/5.md). -/
def optionBytes {α : Type} (f : α → List Byte) : Option α → List Byte
  | none => [0]
  | some a => 1 :: f a

/-- The peer record. -/
def PeerRecord.bytes (p : PeerRecord) : List Byte :=
  [p.role.code] ++ leBytes 8 p.identity.toNat ++ leBytes 4 p.size ++ leBytes 2 p.number.toNat ++ [p.state]
    ++ leBytes 2 p.total.toNat

/-- The credit count reported: a receiver reports 0 (R178). -/
def State.reportedCredits (s : State) : Nat :=
  match s.mgmt.role with
  | .sender => s.txq.credits
  | .receiver => 0

/-- The data of READ_STATUS (R178). -/
def State.statusBytes (s : State) : List Byte :=
  [s.mgmt.role.code, s.stateCode] ++ leBytes 2 s.campaignNumber.toNat ++ [s.link.state.code]
    ++ optionBytes PeerRecord.bytes s.link.peer
    ++ leBytes 4 s.countD ++ leBytes 4 s.countL
    ++ leBytes 1 s.shareInForce ++ leBytes 1 s.cfg.share
    ++ [s.tables.active.code] ++ optionBytes (fun b => [Bank.code b]) s.tables.pending
    ++ [boolByte s.paused, boolByte s.camp.breakFlag, boolByte s.mgmt.pace]
    ++ leBytes 1 s.eng.inFlight.length ++ leBytes 2 s.txq.queue.length ++ leBytes 1 s.reportedCredits
    ++ leBytes 2 s.mgmt.latches.toNat
    ++ [boolByte s.syncLevel, boolByte s.alertLevel, boolByte s.mgmt.cue, boolByte s.mgmt.pace]
    ++ s.mgmt.tally.toList.flatMap fun n => leBytes 1 n

/-- The last-pass record; the outcome's code is free. -/
def PassRecord.bytes (p : PassRecord) : List Byte :=
  leBytes 2 p.pass ++ leBytes 4 p.k ++ leBytes 4 p.w ++ leBytes 4 p.r ++ leBytes 2 p.rho ++ leBytes 2 p.s
    ++ leBytes 1 p.flat ++ leBytes 1 p.share ++ [Config.passOutcomeCode p.outcome.index]

/-- The data of READ_COUNTERS (R178). -/
def State.countersBytes (s : State) : List Byte :=
  leBytes 2 s.camp.passNumber ++ leBytes 4 s.conv.k ++ leBytes 4 s.conv.w ++ leBytes 2 s.conv.s
    ++ [boolByte s.conv.sMark] ++ leBytes 1 s.conv.flat ++ optionBytes PassRecord.bytes s.conv.lastPass
    ++ leBytes 2 s.mon.degrade ++ leBytes 2 s.aud.mismatch ++ leBytes 1 s.aud.failed

/-- The data of READ_REGION (R178). -/
def regionBytes (r : Option Region) : List Byte :=
  optionBytes (fun r => leBytes 4 r.base ++ leBytes 4 r.count ++ [r.policy.code, boolByte r.regionEnd]) r

/-- The data of READ_BANK (R178). -/
def Tables.bankBytes (tb : Tables) (b : Bank) : List Byte :=
  leBytes 1 (tb.entries b).length ++ (tb.entries b).map (fun n => BitVec.ofNat 8 n)
    ++ [boolByte (tb.active == b), boolByte (tb.pending == some b)]

/-- The data of READ_FAULTS (R109, R185). -/
def CopyEngine.faultBytes (e : CopyEngine) : List Byte :=
  leBytes 1 e.faults.length
    ++ e.faults.flatMap fun f => leBytes 4 f.tile ++ leBytes 1 f.strikes ++ [boolByte f.quarantined]

/-- The exit record (R185). -/
def ExitRecord.bytes (x : ExitRecord) : List Byte :=
  [x.reason.code] ++ leBytes 2 x.number.toNat ++ leBytes 2 x.lastPass ++ leBytes 4 x.dirtyD ++ leBytes 4 x.dirtyL
    ++ leBytes 1 x.faults ++ leBytes 2 x.degrade

end Sys2Proof.Machine
end

