-- ==== Sys2Proof/Machine/MemPath.lean ====
section
/-! DEFINITION. The memory path's commands: near-port transfers, arbiter grants, far-port terminations, and the two
memory path timers (chapters 1 and 3, R164). -/

namespace Sys2Proof.Machine

/-! ### Judgement (R3, R38, R42, R164) -/

/-- The three outcomes of a judgement (R3). -/
inductive Judgement where
  | forward
  | hold
  | answer (term : Term)
  deriving DecidableEq, Repr

/-- Whether a tile lies in the held region. -/
def State.inHeldRegion (s : State) (t : Nat) : Bool :=
  match s.mon.regionHold.bind s.tables.region with
  | some r => r.has t
  | none => false

/-- The judgement on the sender, with the latch it may set (R38, R41). -/
def State.judgeSender (s : State) (kind : XferKind) (t : Nat) : State × Judgement :=
  if s.inHeldRegion t then (s, .hold)
  else if s.mon.drainHold && s.inScope t then (s, if kind.isWrite then .hold else .forward)
  else if s.camp.state = .handedOver && s.inScope t && kind.isWrite then (s.latch .writeRefused, .answer .fault)
  else (s, .forward)

/-- The judgement of a read in RECEIVING and INSYNC of a tile with a policy other than SKIP: lines 2 to 8 (R164). -/
def State.judgeRead (s : State) (policy : Policy) (t : Nat) : State × Judgement :=
  if s.rxQuarantined t then (s, .answer .fault)
  else if s.bit t then (s, .forward)
  else if policy = .zero then (s, .answer (if s.rx.fill.passed t then .fault else .retry))
  else if s.rx.expired.contains t then
    ({ s with rx.expired := s.rx.expired.filter fun u => u != t }, .answer .fault)
  else if s.link.state != .up then (s, .answer .fault)
  else (s.demandRead t, .answer .retry)

/-- The judgement in RECEIVING and INSYNC (R164). A quarantined tile is refused to reads whatever its policy.
DEDUCED (notes/assumptions/17.md). -/
def State.judgeActive (s : State) (kind : XferKind) (t : Nat) : State × Judgement :=
  let policy := s.tables.policyAt t
  if policy = .skip then
    (s, if !kind.isWrite && s.rxQuarantined t then .answer .fault else .forward)
  else if kind.isWrite then (s.latch .writeRefused, .answer .fault)
  else s.judgeRead policy t

/-- The judgement on either role (R3, R42). -/
def State.judge (s : State) (kind : XferKind) (t : Nat) : State × Judgement :=
  match s.mgmt.role with
  | .sender => s.judgeSender kind t
  | .receiver => if s.rx.state.active then s.judgeActive kind t else (s, .forward)

/-! ### NEAR_TRANSFER (R1 to R4, R8, R11, R43) -/

/-- Whether a transfer is the closing half of its tag's locked pair (R11). -/
def State.closesPair (s : State) (tag : Fin 16) (kind : XferKind) (addr : Addr) : Bool :=
  kind == .lockWrite && (s.tagRecord tag).lock == some addr

/-- The near port acts on a judgement (R3, R8, R43). -/
def State.actOn (s : State) (x : Transfer) (lock : Option Addr) : Judgement → State
  | .forward => (s.setTag x.tag ⟨true, lock⟩).forward x
  | .hold =>
    let s1 := s.setTag x.tag ⟨true, lock⟩
    { s1 with mem.holdList := s1.mem.holdList ++ [x] }
  | .answer term => (s.setTag x.tag ⟨false, none⟩).answer x.tag term

/-- A transfer that is accepted and not malformed: the lock record is matched or emptied, and the transfer judged
(R3, R11). -/
def State.accept (s : State) (x : Transfer) : State :=
  let closing := s.closesPair x.tag x.kind x.addr
  let kind := if x.kind = .lockWrite && !closing then XferKind.write else x.kind
  let (s1, j) := s.judge kind (tileOf x.addr)
  s1.actOn { x with kind := kind } (if closing then some x.addr else none) j

/-- A transfer arrives at the near port (R1, R2, R3). -/
def State.arrive (s : State) (x : Transfer) : State :=
  if (s.tagRecord x.tag).outstanding then s.answer x.tag .fault
  else if malformed x.kind x.addr x.mask then (s.setTag x.tag ⟨false, none⟩).answer x.tag .fault
  else s.accept x

/-- NEAR_TRANSFER (R3). In a power-on or warm reset the near port accepts nothing (R183).
DEDUCED (notes/assumptions/13.md). -/
def execNearTransfer (tag : Fin 16) (kind : XferKind) (addr : Addr) (mask : Mask) (data : Line) (s : State) :
    Host.Outcome State Fault Refusal :=
  .next (if s.mgmt.inReset then s else s.arrive ⟨tag, kind, addr, mask, data⟩)

/-! ### ARBITER_GRANT (R7, R13, R14) -/

/-- PASS waits (R7, R13). -/
def State.passWaits (s : State) : Bool := !s.mem.queue.isEmpty && !s.keptBack

/-- APPLY waits (R13). -/
def State.applyWaits (s : State) : Bool :=
  s.mgmt.role == .receiver && s.mem.internalRoom && s.nextApply.isSome

/-- FILL waits (R13). -/
def State.fillWaits (s : State) : Bool :=
  s.mgmt.role == .receiver && s.mem.internalRoom && s.nextFill.isSome

/-- An internal requester waits. -/
def State.internalWaits (s : State) : Bool := s.applyWaits || s.fillWaits || s.copyWaits

/-- The credit as it stands for this grant: the first grant of a frame loads the share in force (R14 to R16). -/
def State.creditNow (s : State) : Nat := if s.mem.frameGrants = 0 then s.shareInForce else s.mem.credit

/-- A grant is counted in its frame (R14). -/
def State.countGrant (s : State) (credit : Nat) : State :=
  { s with mem.frameGrants := (s.mem.frameGrants + 1) % Config.frameLength, mem.credit := credit }

/-- The grant of the head of the pass-through queue: tracking effect, issue and lock record (R7, R11, R13). -/
def State.grantPass (s : State) : State :=
  match s.mem.queue with
  | [] => s
  | x :: rest =>
    let s1 := State.track { s with mem.queue := rest, mon.stall := .stopped } x
    let s2 := s1.issue (.pass x.tag) x.kind x.addr x.mask x.data
    match x.kind with
    | .lockRead => s2.setTag x.tag { s2.tagRecord x.tag with lock := some x.addr }
    | .lockWrite => s2.clearLock x.tag
    | .read | .write | .readLine | .writeLine => s2

/-- The grant of an internal requester, APPLY before FILL before COPY (R13); the flag is false when COPY's request is
withdrawn (R94). -/
def State.grantInternal (s : State) : State × Bool :=
  match s.nextApply, s.nextFill with
  | some (a, n, again), _ => if s.applyWaits then (s.grantApply a n again, true) else s.grantCopy
  | none, some (p, l, again) => if s.fillWaits then (s.grantFill p l again, true) else s.grantCopy
  | none, none => s.grantCopy

/-- One decision of the path arbiter (R14). DEDUCED (notes/assumptions/9.md). -/
def State.arbitrate (s : State) : State :=
  let credit := s.creditNow
  if s.internalWaits && !s.pairHold && (!s.passWaits || decide (0 < credit)) then
    let (s1, begun) := s.grantInternal
    if begun then s1.countGrant (if s.passWaits then credit - 1 else credit)
    else if s1.passWaits then s1.grantPass.countGrant credit
    else s1
  else if s.passWaits then s.grantPass.countGrant credit
  else s

/-- ARBITER_GRANT (R13). -/
def execArbiterGrant (s : State) : Host.Outcome State Fault Refusal := .next (s.testHead.moveWalks).arbitrate

/-! ### FAR_TERMINATION (R4 to R6, R12, R44, R50) -/

/-- Whether a queue entry is the PENDING mirror of a tag's write (R47). -/
def TxEntry.pendingFor (e : TxEntry) (tag : Fin 16) : Bool :=
  match e.body with
  | .mirror t ready _ _ _ _ => t == tag && !ready
  | _ => false

/-- The MIRROR body, READY. -/
def TxBody.makeReady : TxBody → TxBody
  | .mirror tag _ addr line mask data => .mirror tag true addr line mask data
  | b => b

/-- The end of a mirrored write (R50). -/
def State.mirrorEnd (s : State) (tag : Fin 16) (addr : Addr) (term : Term) : State :=
  match s.txq.queue.find? fun e => e.pendingFor tag with
  | none => s
  | some e =>
    match term with
    | .done _ =>
      { s with txq.queue := s.txq.queue.map fun q => if q.id = e.id then { q with body := q.body.makeReady } else q }
    | .fault | .retry =>
      (State.markDirty { s with txq := s.txq.remove e.id } (tileOf addr)).redirty (tileOf addr)

/-- A DONE termination. -/
def termDone : Term → Bool
  | .done _ => true
  | .fault | .retry => false

/-- The termination of a PASS transfer: its mirror ends, a failed LOCK_READ ends its pair, the passage entry goes, and
the termination is relayed and frees the tag (R4, R5, R12, R44, R50). -/
def State.passTermination (s : State) (tag : Fin 16) (x : FarTransfer) (term : Term) : State :=
  let s1 := s.mirrorEnd tag x.addr term
  let s2 := if x.kind = .lockRead && !termDone term then s1.clearLock tag else s1
  let s3 := { s2 with mon.passage := s2.mon.passage.filter fun p => p.tag != tag }
  (s3.setTag tag { s3.tagRecord tag with outstanding := false }).answer tag term

/-- A termination goes to the owner of its transfer (R6). -/
def State.routeTermination (s : State) (x : FarTransfer) (term : Term) : State :=
  match x.owner with
  | .pass tag => s.passTermination tag x term
  | .copy t l => s.copyTermination t l term
  | .apply n => s.applyTermination n term
  | .fill t l => s.fillTermination t l term
  | .abandoned => s

/-- FAR_TERMINATION of transfer `id`; one that names no outstanding transfer is taken and discarded (R6, R18).
DEDUCED (notes/assumptions/43.md). -/
def execFarTermination (id : Nat) (term : Term) (s : State) : Host.Outcome State Fault Refusal :=
  .next (match s.mem.outstanding.find? fun x => x.id == id with
    | none => s
    | some x =>
      State.routeTermination { s with mem.outstanding := s.mem.outstanding.filter fun y => y.id != id } x term)

/-! ### Timers of the memory path (R12, R52) -/

/-- PAIR_HOLD_EXPIRY of a tag whose pair hold runs (R12). -/
def execPairHoldExpiry (tag : Fin 16) (s : State) : Host.Outcome State Fault Refusal :=
  .next (if (s.tagRecord tag).lock.isSome then (s.clearLock tag).latch .lockBroken else s)

/-- STALL_LIMIT_EXPIRY (R52). -/
def execStallLimitExpiry (s : State) : Host.Outcome State Fault Refusal :=
  .next (if s.mon.stall = .running then { s with mon.stall := .expired } else s)

end Sys2Proof.Machine
end

