-- ==== Sys2Proof/Machine/Management.lean ====
section
/-! DEFINITION. The management line's commands other than the campaign commands and SOFT_RESET: identity and role, plan,
settings, latches and reads (chapters 2, 11 and 12). -/

namespace Sys2Proof.Machine

/-! ### Acceptance (R175, R183) -/

/-- A management command: in a power-on or warm reset the line acknowledges no write (R183). -/
def State.command (s : State) (f : State → State) : Host.Outcome State Fault Refusal :=
  .next (if s.mgmt.inReset then s else f s)

/-- A refused command changes nothing but the last reply, which carries no data (R175, R185). -/
def State.refuse (s : State) (status : Status) : State := s.reply status []

/-- The IDLE of either role. -/
def State.isIdle (s : State) : Bool :=
  match s.mgmt.role with
  | .sender => s.camp.state == .idle
  | .receiver => s.rx.state == .idle

/-- Whether the state allows SET_TUNING and SET_LINK (R177). -/
def State.settable (s : State) : Bool :=
  match s.mgmt.role with
  | .sender => s.camp.state == .idle || s.camp.state == .armed
  | .receiver => s.rx.state == .idle

/-- A receiver in RECEIVING or INSYNC, where the plan commands and SET_ROLE are refused BUSY (R22, R149). -/
def State.receiving (s : State) : Bool := s.mgmt.role == .receiver && s.rx.state.active

/-- OK, or CLAMPED when a value was replaced (R175). -/
def clampStatus (clamped : Bool) : Status := if clamped then .clamped else .ok

/-! ### SET_ROLE, SET_SIZE, SET_IDENTITY (R149, R176) -/

/-- The receive engine as a change of role leaves it: the soft reset's column (R166, R176). -/
def Receiver.cleared (r : Receiver) : Receiver :=
  { Receiver.reset with arrived := r.arrived, lossCredited := r.lossCredited }

/-- The campaign as a change of role leaves it: the number and the exit record stay (R80, R176). -/
def Campaign.cleared (c : Campaign) : Campaign := { Campaign.reset with number := c.number, exit := c.exit }

/-- Every internal transfer is abandoned (R6, R19). -/
def State.abandonInternal (s : State) : State :=
  s.abandonOwned fun o => match o with
    | .pass _ => false
    | .copy _ _ | .apply _ | .fill _ _ | .abandoned => true

/-- The engines of the role left are emptied as for a soft reset, and the tile map is cleared (R19, R29, R35, R176). -/
def State.changeRole (s : State) (role : Role) : State :=
  let s1 := s.release.abandonInternal
  State.helloOnChange
    { s1 with
      map := 0
      tables.pending := none
      mgmt.role := role
      mon := { s1.mon with regionHold := none, drainHold := false, stall := .stopped, degrade := 0 }
      camp := s1.camp.cleared
      conv := Convergence.reset s1.cfg.share
      eng := CopyEngine.reset
      aud := Audit.reset
      txq := s1.txq.emptied
      rx := s1.rx.cleared
      link := { s1.link with
        control := s1.link.control.filter fun c => c.sameKind .hello
        reports := [] } }

/-- A receiver in IDLE or LIVE that takes SET_ROLE RECEIVER (R149). -/
def State.idleReceiver (s : State) : State :=
  let s1 := s.abandonApplying
  let s2 := State.emptyReceiver (State.setHeld { s1 with rx.buffer := [] } 0)
  s2.enterReceiver .idle

/-- SET_ROLE is taken (R149, R176). -/
def State.takeRole (s : State) (role : Role) : State :=
  match s.mgmt.role, role with
  | .sender, .sender => s
  | .sender, .receiver => s.changeRole .receiver
  | .receiver, .receiver => s.idleReceiver
  | .receiver, .sender => s.idleReceiver.changeRole .sender

/-- SET_ROLE (R149, R175, R176). DEDUCED (notes/assumptions/31.md). -/
def execSetRole (role : Byte) (s : State) : Host.Outcome State Fault Refusal :=
  s.command fun s =>
    if s.receiving || (s.mgmt.role == .sender && s.camp.state != .idle) then s.refuse .busy
    else
      match roleOf role with
      | none => s.refuse .range
      | some r => (s.takeRole r).reply .ok [role]

/-- SET_SIZE (R176). -/
def execSetSize (size : BitVec 32) (s : State) : Host.Outcome State Fault Refusal :=
  s.command fun s =>
    if !s.isIdle then s.refuse .busy
    else
      let n := clampTo 1 Config.tiles size.toNat
      let s1 := if s.mgmt.size = n then s else State.helloOnChange { s with mgmt.size := n }
      s1.reply (clampStatus (n != size.toNat)) (leBytes 4 n)

/-- SET_IDENTITY (R176). -/
def execSetIdentity (identity : BitVec 64) (s : State) : Host.Outcome State Fault Refusal :=
  s.command fun s =>
    if !s.isIdle then s.refuse .busy
    else
      let s1 := if s.mgmt.identity = identity then s else State.helloOnChange { s with mgmt.identity := identity }
      s1.reply .ok (leBytes 8 identity.toNat)

/-! ### Regions and banks (R22 to R27) -/

/-- Whether a region number is locked (R22). -/
def State.locked (s : State) (n : Nat) : Bool := s.runs && s.tables.lockedSet.contains n

/-- Whether two extents share a tile. -/
def Region.overlaps (a b : Region) : Bool := decide (max a.base b.base < min (a.base + a.count) (b.base + b.count))

/-- Whether an extent shares a tile with a valid entry other than entry n (R22). -/
def Tables.overlap (tb : Tables) (n : Nat) (r : Region) : Bool :=
  tb.records.any fun e => e.1 != n && e.2.overlaps r

/-- The region entry that LOAD_REGION's fields make, if each enumeration lies in its set (R22, R185). -/
def regionOf (base count : BitVec 32) (policy regionEnd : Byte) : Option Region :=
  match policyOf policy, boolOf regionEnd with
  | some p, some e => some ⟨base.toNat, count.toNat, p, e⟩
  | _, _ => none

/-- The region table with entry n replaced. -/
def Tables.setRegion (tb : Tables) (n : Nat) (r : Option Region) : Tables :=
  { tb with regions := tb.regions.setIfInBounds n r }

/-- The checks of LOAD_REGION after BUSY (R22). -/
def State.regionCheck (s : State) (n : Nat) (r : Region) : Status :=
  if 31 < n then .range
  else if r.count = 0 ∨ s.mgmt.size < r.base + r.count then .range
  else if s.locked n then .locked
  else if s.tables.overlap n r then .overlap
  else .ok

/-- A LOAD_REGION that passes its checks: during a campaign the tiles of a COPY or LATE extent become dirty (R23). -/
def State.takeRegion (s : State) (n : Nat) (r : Region) : State :=
  { s with
    tables := s.tables.setRegion n (some r)
    map := if s.runs && (r.policy == .copy || r.policy == .late) then s.map ||| r.mask else s.map }

/-- LOAD_REGION (R22, R23). -/
def execLoadRegion (region : Byte) (base count : BitVec 32) (policy regionEnd : Byte) (s : State) :
    Host.Outcome State Fault Refusal :=
  s.command fun s =>
    if s.receiving then s.refuse .busy
    else
      match regionOf base count policy regionEnd with
      | none => s.refuse .range
      | some r =>
        match s.regionCheck region.toNat r with
        | .ok => (s.takeRegion region.toNat r).reply .ok []
        | st => s.refuse st

/-- CLEAR_REGION (R24). -/
def execClearRegion (region : Byte) (s : State) : Host.Outcome State Fault Refusal :=
  s.command fun s =>
    if s.receiving then s.refuse .busy
    else if 31 < region.toNat then s.refuse .range
    else if s.locked region.toNat then s.refuse .locked
    else State.reply { s with tables := s.tables.setRegion region.toNat none } .ok []

/-- A bank with its entries replaced. -/
def Tables.setBank (tb : Tables) (b : Bank) (entries : List Nat) : Tables :=
  match b with
  | .bankA => { tb with bankA := entries }
  | .bankB => { tb with bankB := entries }

/-- LOAD_BANK (R26). -/
def execLoadBank (bank : Byte) (entries : List Byte) (s : State) : Host.Outcome State Fault Refusal :=
  s.command fun s =>
    if s.receiving then s.refuse .busy
    else
      match bankOf bank with
      | none => s.refuse .range
      | some b =>
        if 64 < entries.length || entries.any fun e => decide (31 < e.toNat) then s.refuse .range
        else if s.runs && (s.tables.active == b || s.tables.pending == some b) then s.refuse .locked
        else State.reply { s with tables := s.tables.setBank b (entries.map fun e => e.toNat) } .ok []

/-- SELECT_BANK on the sender (R27). -/
def State.selectOnSender (s : State) (b : Bank) : State :=
  match s.camp.state with
  | .idle | .armed => State.reply { s with tables.active := b } .ok []
  | .sweep | .settle =>
    State.reply { s with tables.pending := if s.tables.active = b then none else some b } .ok []
  | .delay | .plan | .mirror | .audit | .insync | .freeze | .drain | .handedOver | .stalled | .ending =>
    s.refuse .busy

/-- SELECT_BANK (R27). -/
def execSelectBank (bank : Byte) (s : State) : Host.Outcome State Fault Refusal :=
  s.command fun s =>
    match bankOf bank with
    | none => s.refuse .range
    | some b =>
      match s.mgmt.role with
      | .sender => s.selectOnSender b
      | .receiver => if s.rx.state.active then s.refuse .busy else State.reply { s with tables.active := b } .ok []

/-! ### Settings (R17, R53, R79, R93, R120, R135, R165, R177) -/

/-- The settings after SET_TUNING, if each enumeration lies in its set; numbers are clamped (R53, R79, R93, R120,
R165). -/
def Settings.tune (c : Settings) (a : TuningArgs) : Option Settings :=
  match boolOf a.audit, abortKindOf a.cueAbort, nonConvergenceOf a.nonConvergence, overflowOf a.overflow with
  | some audit, some cueAbort, some nonConvergence, some overflow =>
    some { c with
      startDelay := clampTo 0 60000 a.startDelay.toNat
      settleDelay := clampTo 0 1000 a.settleDelay.toNat
      holdBudget := clampTo 100 100000 a.holdBudget.toNat
      audit := audit
      cueAbort := cueAbort
      mirrorThreshold := clampTo 0 131071 a.mirrorThreshold.toNat
      passLimit := a.passLimit.toNat
      nonConvergence := nonConvergence
      stallRatio := clampTo 1 Config.ratioLimit a.stallRatio.toNat
      step := clampTo 0 16 a.step.toNat
      ceiling := clampTo 1 64 a.ceiling.toNat
      overflow := overflow
      stallLimit := clampTo 0 1000 a.stallLimit.toNat
      applyTimeout := clampTo 1 100 a.applyTimeout.toNat
      demandWait := clampTo 1 100 a.demandWait.toNat }
  | _, _, _, _ => none

/-- Whether SET_TUNING replaced a number by the nearest end of its range. -/
def Settings.tuneClamped (c : Settings) (a : TuningArgs) : Bool :=
  c.startDelay != a.startDelay.toNat || c.settleDelay != a.settleDelay.toNat || c.holdBudget != a.holdBudget.toNat
    || c.mirrorThreshold != a.mirrorThreshold.toNat || c.stallRatio != a.stallRatio.toNat || c.step != a.step.toNat
    || c.ceiling != a.ceiling.toNat || c.stallLimit != a.stallLimit.toNat || c.applyTimeout != a.applyTimeout.toNat
    || c.demandWait != a.demandWait.toNat

/-- SET_TUNING (R177). -/
def execSetTuning (args : TuningArgs) (s : State) : Host.Outcome State Fault Refusal :=
  s.command fun s =>
    if !s.settable then s.refuse .busy
    else
      match s.cfg.tune args with
      | none => s.refuse .range
      | some c => State.reply { s with cfg := c } (clampStatus (c.tuneClamped args)) c.tuningBytes

/-- The effective share after SET_SHARE (R15). -/
def Convergence.setShare (v : Convergence) (n : Nat) : Convergence :=
  if v.boost && decide (n < v.share) then v else { v with share := n, boost := false }

/-- SET_SHARE (R15, R17). The reply echoes the effective share stored, also while the override of R16 runs. DEDUCED
(notes/assumptions/53.md). -/
def execSetShare (share : Byte) (s : State) : Host.Outcome State Fault Refusal :=
  s.command fun s =>
    let n := clampTo 1 64 share.toNat
    let s1 := { s with cfg.share := n, conv := s.conv.setShare n }
    s1.reply (clampStatus (n != share.toNat)) (leBytes 1 n ++ leBytes 1 s1.conv.share)

/-- SET_LINES (R57, R66, R177, R185). -/
def execSetLines (cueMode paceEnable eventMask : Byte) (alertMask : BitVec 16) (s : State) :
    Host.Outcome State Fault Refusal :=
  s.command fun s =>
    match cueModeOf cueMode, boolOf paceEnable with
    | some m, some p =>
      if 64 ≤ eventMask.toNat ∨ 2048 ≤ alertMask.toNat then s.refuse .range
      else
        let s1 := { s with
          cfg.cueMode := m
          cfg.paceEnable := p
          cfg.eventMask := eventMask.setWidth 6
          cfg.alertMask := alertMask.setWidth 11 }
        s1.reply .ok s1.cfg.linesBytes
    | _, _ => s.refuse .range

/-- The link after a SET_LINK has written the enable (R129, R130, R135). -/
def State.followEnable (s : State) : State :=
  if s.cfg.linkEnable then s.tryTrain
  else if s.link.state = .down then s
  else s.linkDown

/-- SET_LINK (R79, R135, R177). -/
def execSetLink (enable blanking offTime relink : Byte) (peerWait : BitVec 16) (s : State) :
    Host.Outcome State Fault Refusal :=
  s.command fun s =>
    if !s.settable then s.refuse .busy
    else
      match boolOf enable, blankingOf blanking, offTimeOf offTime, relinkOf relink with
      | some e, some b, some o, some r =>
        let n := clampTo 1 600 peerWait.toNat
        let s1 := State.followEnable
          { s with
            cfg.linkEnable := e
            cfg.blanking := b
            cfg.offTime := o
            cfg.relink := r
            cfg.peerWait := n }
        s1.reply (clampStatus (n != peerWait.toNat)) s1.cfg.linkBytes
      | _, _, _, _ => s.refuse .range

/-! ### Latches and reads (R178, R179, R185) -/

/-- CLEAR_LATCHES (R179). -/
def execClearLatches (conditions : BitVec 16) (s : State) : Host.Outcome State Fault Refusal :=
  s.command fun s =>
    if 2048 ≤ conditions.toNat then s.refuse .range
    else
      let l := s.mgmt.latches &&& ~~~ (conditions.setWidth 11)
      State.reply { s with mgmt.latches := l } .ok (leBytes 2 l.toNat)

/-- READ_STATUS: the picture, then the event tally returns to 0 (R178, R180). -/
def execReadStatus (s : State) : Host.Outcome State Fault Refusal :=
  s.command fun s => State.reply { s with mgmt.tally := Vector.replicate 6 0 } .ok s.statusBytes

/-- READ_COUNTERS (R178). -/
def execReadCounters (s : State) : Host.Outcome State Fault Refusal :=
  s.command fun s => s.reply .ok s.countersBytes

/-- READ_REGION (R178). -/
def execReadRegion (region : Byte) (s : State) : Host.Outcome State Fault Refusal :=
  s.command fun s =>
    if 31 < region.toNat then s.refuse .range else s.reply .ok (regionBytes (s.tables.region region.toNat))

/-- READ_BANK (R178). -/
def execReadBank (bank : Byte) (s : State) : Host.Outcome State Fault Refusal :=
  s.command fun s =>
    match bankOf bank with
    | none => s.refuse .range
    | some b => s.reply .ok (s.tables.bankBytes b)

/-- READ_FAULTS (R109, R178). -/
def execReadFaults (s : State) : Host.Outcome State Fault Refusal :=
  s.command fun s => s.reply .ok s.eng.faultBytes

/-- READ_EXIT (R78, R178). -/
def execReadExit (s : State) : Host.Outcome State Fault Refusal :=
  s.command fun s => s.reply .ok s.camp.exit.bytes

/-- UNKNOWN_COMMAND: a code that names no command, or a length that is not the command's own (R175). -/
def execUnknownCommand (_code : Byte) (_args : List Byte) (s : State) : Host.Outcome State Fault Refusal :=
  s.command fun s => s.refuse .badCommand

end Sys2Proof.Machine
end

