-- ==== Sys2Proof/Machine/CampaignCmds.lean ====
section
/-! DEFINITION. The campaign's commands, the CUE and PACE inputs, and the campaign's timers and block events (chapters 4,
5 and 10). -/

namespace Sys2Proof.Machine

/-! ### Campaign commands (R55 to R57, R66, R67, R73) -/

/-- A campaign command: ROLE on a receiver, BUSY where the sender state does not allow it (R175). -/
def State.campaignCommand (s : State) (allowed : SenderState → Bool) (f : State → State) :
    Host.Outcome State Fault Refusal :=
  s.command fun s =>
    if s.mgmt.role = .receiver then s.refuse .role
    else if allowed s.camp.state then f s
    else s.refuse .busy

/-- A campaign command that is taken: its reply, stored after its effects (R175). -/
def State.taken (s : State) : State := s.reply .ok []

/-- ARM (R55). -/
def execArm (s : State) : Host.Outcome State Fault Refusal :=
  s.campaignCommand (fun c => c == .idle) fun s => (s.enter .armed).taken

/-- DISARM (R30, R55). -/
def execDisarm (s : State) : Host.Outcome State Fault Refusal :=
  s.campaignCommand (fun c => c == .armed || c == .handedOver) fun s => s.enterIdle.taken

/-- The checks of START (R56), with the peer when they pass. -/
def State.startCheck (s : State) : Except Status PeerRecord :=
  match s.link.peer with
  | none => .error .noPeer
  | some peer =>
    if s.link.state != .up || peer.role != .receiver then .error .noPeer
    else if s.bankEntries.isEmpty then .error .empty
    else if !s.planFits peer.size then .error .size
    else .ok peer

/-- START (R56, R58). -/
def execStart (s : State) : Host.Outcome State Fault Refusal :=
  s.campaignCommand (fun c => c == .armed) fun s =>
    match s.startCheck with
    | .error st => s.refuse st
    | .ok peer => (s.startCampaign peer).taken

/-- The states in which BREAK is accepted (R66). -/
def breakable : SenderState → Bool
  | .sweep | .settle | .mirror | .audit => true
  | .idle | .armed | .delay | .plan | .insync | .freeze | .drain | .handedOver | .stalled | .ending => false

/-- A running state other than HANDED_OVER. -/
def SenderState.live : SenderState → Bool
  | .idle | .armed | .handedOver => false
  | .delay | .plan | .sweep | .settle | .mirror | .audit | .insync | .freeze | .drain | .stalled | .ending => true

/-- BREAK (R66). -/
def execBreakCmd (s : State) : Host.Outcome State Fault Refusal :=
  s.campaignCommand breakable fun s => State.taken { s with camp.breakFlag := true }

/-- RESUME, the command (R66). -/
def execResumeCmd (s : State) : Host.Outcome State Fault Refusal :=
  s.campaignCommand SenderState.live fun s => State.taken { s with camp.breakFlag := false }

/-- ABORT (R73). -/
def execAbort (kind : Byte) (s : State) : Host.Outcome State Fault Refusal :=
  s.campaignCommand SenderState.live fun s =>
    match abortKindOf kind with
    | none => s.refuse .range
    | some k => (s.abortWith k .abortCommand).taken

/-- The freeze list: the valid LATE regions the active bank names, in order of first occurrence (R67). -/
def State.freezeRegions (s : State) : List Nat :=
  (s.plan.filter fun r => r.2.policy == .late).map fun r => r.1

/-- INSYNC is left for FREEZE and the first region of the freeze list is frozen (R65, R67). -/
def State.takeHandover (s : State) : State :=
  let s1 := State.raise (s.enter .freeze) .insyncLeave
  State.freezeNext { s1 with camp.freezeList := s.freezeRegions }

/-- HANDOVER (R67). -/
def execHandover (s : State) : Host.Outcome State Fault Refusal :=
  s.campaignCommand (fun c => c == .insync) fun s => s.takeHandover.taken

/-! ### CUE and PACE (R57, R182) -/

/-- A start edge in ARMED (R57). -/
def State.cueStart (s : State) : State :=
  match s.startCheck with
  | .error _ => s.latch .cueIgnored
  | .ok peer => s.startCampaign peer

/-- A rising edge of CUE on the sender (R57). -/
def State.cueRise (s : State) : State :=
  match s.cfg.cueMode with
  | .off => s
  | .start => if s.camp.state = .armed then s.cueStart else s
  | .startAbort =>
    if s.camp.state = .armed then s.cueStart
    else if s.camp.state.live then s.abortWith s.cfg.cueAbort .abortCue
    else s
  | .startBreak =>
    if s.camp.state = .armed then s.cueStart
    else if breakable s.camp.state then { s with camp.breakFlag := !s.camp.breakFlag }
    else s

/-- CUE_EDGE: the level is seen, and a rising edge on a sender acts by the cue mode (R57, R182).
DEDUCED (notes/assumptions/33.md). -/
def execCueEdge (rising : Bool) (s : State) : Host.Outcome State Fault Refusal :=
  let s1 := { s with mgmt.cue := rising }
  .next (if rising && s.mgmt.role == .sender then s1.cueRise else s1)

/-- PACE_CHANGE (R66, R182). -/
def execPaceChange (high : Bool) (s : State) : Host.Outcome State Fault Refusal :=
  .next { s with mgmt.pace := high }

/-! ### Delay, plan and settle timers (R59, R60, R62) -/

/-- START_DELAY_EXPIRY (R59, R60). -/
def execStartDelayExpiry (s : State) : Host.Outcome State Fault Refusal :=
  .next (if s.camp.state = .delay && s.camp.startDelay.isSome then
    State.enterPlan { s with camp.startDelay := none } else s)

/-- PLAN_WAIT_EXPIRY (R60). -/
def execPlanWaitExpiry (s : State) : Host.Outcome State Fault Refusal :=
  .next (if s.camp.state = .plan && s.camp.planWait.isSome then s.close .peerSilent else s)

/-- SETTLE_EXPIRY (R62). -/
def execSettleExpiry (s : State) : Host.Outcome State Fault Refusal :=
  .next (if s.camp.state = .settle && s.camp.settle.isSome then
    State.beginPass { s with camp.settle := none } .sweep else s)

/-! ### The pass end (R84 to R89, R92) -/

/-- The pass ratio of K and W (R85). -/
def passRatio (k w : Nat) : Nat :=
  if k = 0 then (if w = 0 then 0 else Config.ratioLimit) else min Config.ratioLimit (256 * w / k)

/-- The smoothed ratio after a sampling (R86). -/
def smooth (s : Nat) (mark : Bool) (rho : Nat) : Nat := if mark then (s + rho + 1) / 2 else rho

/-- What a decision settles: its outcome, the effective share with its boost, and the flat count. -/
structure Decision where
  outcome : PassOutcome
  share   : Nat
  boost   : Bool
  flat    : Nat
  deriving DecidableEq, Repr

/-- Whether the share can be raised (R88, R89). -/
def canBoost (c : Settings) (share : Nat) : Bool := decide (share < c.ceiling ∧ 0 < c.step)

/-- The pass limit applies (R87, R89). -/
def limitReached (c : Settings) (pass : Nat) : Bool := decide (c.passLimit ≠ 0 ∧ c.passLimit ≤ pass)

/-- The trend is stalled (R87, R89). -/
def trendStalled (c : Settings) (pass s : Nat) : Bool := decide (2 ≤ pass ∧ c.stallRatio ≤ s)

/-- The outcome of the non-convergence action (R87). -/
def NonConvergence.outcome : NonConvergence → PassOutcome
  | .forceMirror => .forced
  | .endCampaign => .notConverged

/-- The stall step (R88). -/
def stallStep (c : Settings) (v : Convergence) : Decision :=
  if canBoost c v.share then
    { outcome := .boost, share := min (v.share + c.step) c.ceiling, boost := true, flat := 0 }
  else
    { outcome := if 3 ≤ v.flat + 1 then c.nonConvergence.outcome else .flat
      share := v.share
      boost := v.boost
      flat := v.flat + 1 }

/-- The decision at a pass end in SWEEP (R87). -/
def decideSweep (c : Settings) (v : Convergence) (pass r s : Nat) : Decision :=
  if r ≤ c.mirrorThreshold then { outcome := .mirror, share := v.share, boost := v.boost, flat := v.flat }
  else if limitReached c pass then
    { outcome := c.nonConvergence.outcome, share := v.share, boost := v.boost, flat := v.flat }
  else if trendStalled c pass s then stallStep c v
  else { outcome := .continues, share := v.share, boost := v.boost, flat := 0 }

/-- The decision at a pass end in MIRROR with D above 0 (R89). -/
def decideMirror (c : Settings) (v : Convergence) (pass s : Nat) : Decision :=
  if limitReached c pass then { outcome := .notConverged, share := v.share, boost := v.boost, flat := v.flat }
  else if trendStalled c pass s && canBoost c v.share then
    { outcome := .boost, share := min (v.share + c.step) c.ceiling, boost := true, flat := v.flat }
  else { outcome := .continues, share := v.share, boost := v.boost, flat := v.flat }

/-- The pass statistics after a sampling and its decision: the record is written, K and W restart (R84, R92). -/
def Convergence.sample (v : Convergence) (pass r : Nat) (d : Decision) : Convergence :=
  let rho := passRatio v.k v.w
  let s := smooth v.s v.sMark rho
  { k := 0
    w := 0
    s := s
    sMark := true
    flat := d.flat
    lastPass := some
      { pass := pass, k := v.k, w := v.w, r := r, rho := rho, s := s, flat := d.flat, share := d.share,
        outcome := d.outcome }
    share := d.share
    boost := d.boost }

/-- SETTLE is entered; a settle delay of 0 begins the next pass at once (R62). DEDUCED (notes/assumptions/29.md). -/
def State.enterSettle (s : State) : State :=
  let s1 := s.enter .settle
  if s1.cfg.settleDelay = 0 then s1.beginPass .sweep
  else { s1 with camp.settle := some (s1.cfg.settleDelay * 1000) }

/-- The state that a decision in SWEEP names is entered (R62, R87). -/
def State.followSweep (s : State) : PassOutcome → State
  | .mirror | .forced => s.beginPass .mirror
  | .notConverged => s.close .notConverged
  | .continues | .boost | .flat | .closed => s.enterSettle

/-- The state that a decision in MIRROR names is entered (R63, R89). -/
def State.followMirror (s : State) : PassOutcome → State
  | .notConverged => s.close .notConverged
  | .continues | .boost | .flat | .mirror | .forced | .closed => s.beginPass .mirror

/-- The pass end in SWEEP (R84, R87). -/
def State.endSweep (s : State) : State :=
  let d := decideSweep s.cfg s.conv s.camp.passNumber s.countD (smooth s.conv.s s.conv.sMark (passRatio s.conv.k s.conv.w))
  (State.raise { s with conv := s.conv.sample s.camp.passNumber s.countD d } .passEnd).followSweep d.outcome

/-- The pass end in MIRROR with D above 0 (R84, R89). -/
def State.endMirror (s : State) : State :=
  let d := decideMirror s.cfg s.conv s.camp.passNumber (smooth s.conv.s s.conv.sMark (passRatio s.conv.k s.conv.w))
  (State.raise { s with conv := s.conv.sample s.camp.passNumber s.countD d } .passEnd).followMirror d.outcome

/-- The statistics at a closing: the record is written with outcome CLOSED, K and W restart, the rest stays (R90). -/
def Convergence.closed (v : Convergence) (pass : Nat) : Convergence :=
  { v with
    k := 0
    w := 0
    lastPass := some
      { pass := pass, k := v.k, w := v.w, r := 0, rho := passRatio v.k v.w, s := v.s, flat := v.flat, share := v.share,
        outcome := .closed } }

/-- A pass in MIRROR closes (R64, R90). -/
def State.closePass (s : State) : State :=
  let s1 := State.raise { s with conv := s.conv.closed s.camp.passNumber } .passEnd
  if s1.cfg.audit && !s1.camp.auditPassed then s1.enterAudit else s1.enterInsync

/-- Whether the pass in progress has ended: the walk is past the last entry and nothing is in flight (R61, R84). -/
def State.passOver (s : State) : Bool := s.sweepDone && s.eng.inFlight.isEmpty

/-- PASS_END (R84). The walk first moves as far as it may; in MIRROR with D = 0 the end is a closing (R90).
DEDUCED (notes/assumptions/7.md). -/
def execPassEnd (s : State) : Host.Outcome State Fault Refusal :=
  let s1 := s.moveWalks
  .next (if s.mgmt.role = .sender && s1.passOver then
    match s.camp.state with
    | .sweep => s1.endSweep
    | .mirror => if s1.countD = 0 then s1.closePass else s1.endMirror
    | _ => s
  else s)

/-- Whether a pass in MIRROR closes now (R64). -/
def State.mayClose (s : State) : Bool :=
  s.mgmt.role == .sender && s.camp.state == .mirror && s.countD == 0 && s.eng.inFlight.isEmpty

/-- PASS_CLOSE (R64, R90). -/
def execPassClose (s : State) : Host.Outcome State Fault Refusal := .next (if s.mayClose then s.closePass else s)

/-- The end of an audit pass (R172). -/
def State.endAudit (s : State) : State :=
  if s.aud.mismatch = 0 then State.enterInsync { s with camp.auditPassed := true }
  else
    let s1 := { s with aud.failed := s.aud.failed + 1 }
    if 3 ≤ s1.aud.failed then s1.close .auditFailed else s1.beginAuditPass

/-- AUDIT_PASS_END (R169, R172). -/
def execAuditPassEnd (s : State) : Host.Outcome State Fault Refusal :=
  let s1 := s.moveWalks
  .next (if s.mgmt.role = .sender && s.camp.state == .audit && s1.aud.walkDone && s1.eng.inFlight.isEmpty
      && s1.countD == 0 then s1.endAudit
    else s)

/-! ### FREEZE, DRAIN and ENDING (R67 to R73) -/

/-- Whether the held region is quiet (R44). -/
def State.heldQuiet (s : State) : Bool := !s.mon.passage.any fun p => s.inHeldRegion p.tile

/-- HELD_REGION_QUIET: the held region's copy begins (R16, R68). -/
def execHeldRegionQuiet (s : State) : Host.Outcome State Fault Refusal :=
  .next (if s.mgmt.role = .sender && s.camp.state == .freeze && s.mon.regionHold.isSome && !s.camp.copyBegun
      && s.heldQuiet then
    { s with camp.copyBegun := true, camp.shareOverride := true, eng.freezeWalk := 0 } else s)

/-- The tiles of the held region. -/
def State.heldMask (s : State) : TileMap :=
  match s.mon.regionHold.bind s.tables.region with
  | some r => r.mask
  | none => 0

/-- Whether the held region is complete: no tile of it dirty, quarantined tiles aside, and none in flight (R68). -/
def State.heldComplete (s : State) : Bool :=
  (s.map &&& s.heldMask &&& ~~~ s.quarantineMask) == 0 && !(s.eng.inFlight.any fun e => s.inHeldRegion e.tile)

/-- FREEZE_REGION_COMPLETE (R68). -/
def execFreezeRegionComplete (s : State) : Host.Outcome State Fault Refusal :=
  .next (if s.mgmt.role = .sender && s.camp.state == .freeze && s.camp.copyBegun && s.heldComplete then
    State.freezeNext { s.release with camp.holdBudget := none } else s)

/-- Whether scope is quiet of writes (R44). -/
def State.scopeQuiet (s : State) : Bool := !s.mon.passage.any fun p => p.kind.isWrite && s.inScope p.tile

/-- The conditions under which HANDOVER is queued (R70). -/
def State.mayQueueHandover (s : State) : Bool :=
  s.mgmt.role == .sender && s.camp.state == .drain && s.txq.queue.isEmpty && s.txq.backlog.isEmpty
    && s.eng.inFlight.isEmpty && s.countD + s.countL == 0 && s.scopeQuiet

/-- HANDOVER_QUEUED (R70). DEDUCED (notes/assumptions/30.md). -/
def execHandoverQueued (s : State) : Host.Outcome State Fault Refusal :=
  .next (if s.mayQueueHandover then
    State.queueMark { s with camp.holdBudget := none, camp.tries := 1 } .handover else s)

/-- The hold budget expires in FREEZE (R69), in DRAIN (R72) and in ENDING (R73). -/
def State.budgetExpires (s : State) : State :=
  let s1 := State.release { s with camp.holdBudget := none, camp.freezeList := [] }
  match s.camp.state with
  | .freeze => (s1.latch .holdExpired).fallBack
  | .drain => (s1.latch .handoverFailed).fallBack
  | _ => s1.latch .holdExpired

/-- Whether the hold-budget timer may expire (R69, R72, R73). -/
def SenderState.budgeted : SenderState → Bool
  | .freeze | .drain | .ending => true
  | .idle | .armed | .delay | .plan | .sweep | .settle | .mirror | .audit | .insync | .handedOver | .stalled => false

/-- HOLD_BUDGET_EXPIRY (R69, R72, R73). -/
def execHoldBudgetExpiry (s : State) : Host.Outcome State Fault Refusal :=
  .next (if s.camp.holdBudget.isSome && s.camp.state.budgeted then s.budgetExpires else s)

/-- ENDING_CLOSE (R73). -/
def execEndingClose (s : State) : Host.Outcome State Fault Refusal :=
  .next (if s.camp.state = .ending && s.eng.inFlight.isEmpty then s.close s.camp.endReason else s)

/-! ### The waits of STALLED (R76, R77, R145) -/

/-- PEER_WAIT_EXPIRY (R76). -/
def execPeerWaitExpiry (s : State) : Host.Outcome State Fault Refusal :=
  .next (if s.camp.state = .stalled && s.camp.peerWait.isSome then s.close .peerTimeout else s)

/-- RESUME_REPEAT (R145). -/
def execResumeRepeat (s : State) : Host.Outcome State Fault Refusal :=
  .next (if s.camp.state = .stalled && s.camp.resumeRepeat.isSome then
    s.raiseControl (.resume s.camp.number s.txq.nextSeq) else s)

/-- RESUME_WAIT_EXPIRY (R77). -/
def execResumeWaitExpiry (s : State) : Host.Outcome State Fault Refusal :=
  .next (if s.camp.state = .stalled && s.camp.resumeWait.isSome then s.close .peerSilent else s)

end Sys2Proof.Machine
end

