-- ==== Sys2Proof/Machine/SenderFrames.lean ====
section
/-! DEFINITION. The frames that arrive at a sender, the frames that travel both ways, and bad and undefined frames
(chapters 6, 7, 8 and 10). -/

namespace Sys2Proof.Machine

/-! ### HELLO and KEEPALIVE (R141, R142) -/

/-- HELLO (R141, R142, R154, R76). -/
def execHello (body : HelloBody) (s : State) : Host.Outcome State Fault Refusal :=
  .next (match s.link.state with
    | .down | .training => s
    | .blanking | .up | .cooldown => s.goodFrame.takeHello body)

/-- KEEPALIVE (R131, R142). -/
def execKeepalive (total : Seq) (s : State) : Host.Outcome State Fault Refusal :=
  .next (match s.link.state with
    | .down | .training => s
    | .blanking | .up | .cooldown =>
      match s.mgmt.role with
      | .sender => s.goodFrame.recoverCredit total
      | .receiver => s.goodFrame)

/-! ### Answers to the plan and to RESUME (R60, R77) -/

/-- PLAN_ACK in PLAN with the current number (R60, R61). -/
def State.takePlanAck (s : State) (number : Seq) : State :=
  if s.camp.state = .plan && number == s.camp.number then State.beginPass { s with camp.planWait := none } .sweep else s

/-- PLAN_ACK (R60). -/
def execPlanAck (number : Seq) (s : State) : Host.Outcome State Fault Refusal :=
  .next (s.onFrame .sender fun s => s.takePlanAck number)

/-- PLAN_REFUSE (R60, R184). In ENDING it records SIZE_MISMATCH, and in DRAIN after HANDOVER has been sent it takes the
closing steps, which release the held writes. DEDUCED (notes/assumptions/25.md). -/
def execPlanRefuse (reason : Byte) (s : State) : Host.Outcome State Fault Refusal :=
  .next (s.onFrame .sender fun s => if reason = 1 && s.camp.state.live then s.close .sizeMismatch else s)

/-- A resumption: a new pass begins, in SWEEP where STALLED was entered from SWEEP or SETTLE, with UNSYNC_MARK where the
sync state is SYNC (R65, R77). DEDUCED (notes/assumptions/28.md). -/
def State.resume (s : State) : State :=
  let s1 := State.beginPass { s with camp.resumeWait := none, camp.resumeRepeat := none }
    (if s.camp.stalledFrom = .sweep || s.camp.stalledFrom = .settle then .sweep else .mirror)
  if s1.camp.synced then s1.queueUnsync else s1

/-- RESUME_ACK (R77). -/
def execResumeAck (number : Seq) (s : State) : Host.Outcome State Fault Refusal :=
  .next (s.onFrame .sender fun s =>
    if s.camp.state = .stalled && s.camp.resumeWait.isSome && number == s.camp.number then s.resume else s)

/-- RESUME_REFUSE of a resume that is awaited (R77). -/
def State.refuseResume (s : State) : State :=
  match s.link.peer with
  | some peer => if s.camp.state = .stalled && s.camp.resumeWait.isSome then s.restart peer else s
  | none => s

/-- RESUME_REFUSE (R77). -/
def execResumeRefuse (_number : Seq) (s : State) : Host.Outcome State Fault Refusal :=
  .next (s.onFrame .sender State.refuseResume)

/-! ### APPLIED, GAP and the apply timer (R117, R120, R121) -/

/-- APPLIED (R117). -/
def execApplied (seq : Seq) (s : State) : Host.Outcome State Fault Refusal :=
  .next (s.onFrame .sender fun s => s.takeApplied seq)

/-- GAP (R121, R124). -/
def execGap (seq : Seq) (s : State) : Host.Outcome State Fault Refusal :=
  .next (s.onFrame .sender fun s => s.loseAt seq seq)

/-- APPLY_TIMEOUT: the apply timer runs while the record holds a frame (R120, R124). -/
def execApplyTimeout (s : State) : Host.Outcome State Fault Refusal :=
  .next (if s.mgmt.role = .sender then s.loseOldest else s)

/-! ### FAULTED, DIGEST_RESULT, DEMAND and CREDIT (R106, R110, R119, R171) -/

/-- Marks the in-flight entry of a tile faulted. -/
def State.markFaulted (s : State) (t : Nat) : State := s.updateEntry t fun e => { e with faulted := true }

/-- FAULTED for a tile of the window (R106). -/
def State.takeFaulted (s : State) (t : Nat) : State :=
  if s.camp.state.live then ((s.markDirty t).markFaulted t).strike t else s

/-- FAULTED (R106, R184). -/
def execFaulted (_seq : Seq) (tile : BitVec 32) (s : State) : Host.Outcome State Fault Refusal :=
  .next (s.onFrame .sender fun s => if tileNamed tile then s.takeFaulted tile.toNat else s)

/-- A MISMATCH on an entry that is neither redirtied nor faulted (R171). -/
def State.mismatch (s : State) (t : Nat) : State :=
  let s1 := (s.markDirty t).latch .auditMismatch
  { s1 with aud.mismatch := satAdd Config.mismatchLimit s1.aud.mismatch 1 }

/-- DIGEST_RESULT for the AUDIT entry with that tile and frame (R171). -/
def State.takeResult (s : State) (seq : Seq) (t : Nat) (mismatched : Bool) : State :=
  match s.eng.inFlight.find? fun e => e.tile == t && e.kind == .audit && e.lastSeq == some seq with
  | none => s
  | some e =>
    let s1 := { s with eng.inFlight := s.eng.inFlight.filter fun f => f.tile != t }
    if mismatched && !e.redirtied && !e.faulted then s1.mismatch t else s1

/-- DIGEST_RESULT (R171, R184). -/
def execDigestResult (seq : Seq) (tile : BitVec 32) (result : Byte) (s : State) : Host.Outcome State Fault Refusal :=
  .next (s.onFrame .sender fun s =>
    match boolOf result with
    | some m => if tileNamed tile then s.takeResult seq tile.toNat m else s
    | none => s)

/-- The states in which DEMAND is appended (R110). -/
def SenderState.demands : SenderState → Bool
  | .plan | .sweep | .settle | .mirror | .audit | .insync | .freeze | .drain => true
  | .idle | .armed | .delay | .handedOver | .stalled | .ending => false

/-- DEMAND for a tile (R110). -/
def State.takeDemandFrame (s : State) (t : Nat) : State :=
  if s.camp.state.demands && s.demandable t && !s.eng.demandQueue.contains t
      && decide (s.eng.demandQueue.length < Config.demandLimit) then
    { s with eng.demandQueue := s.eng.demandQueue ++ [t] }
  else s

/-- DEMAND (R110, R184). -/
def execDemand (tile : BitVec 32) (s : State) : Host.Outcome State Fault Refusal :=
  .next (s.onFrame .sender fun s => if tileNamed tile then s.takeDemandFrame tile.toNat else s)

/-- CREDIT (R119, R142, R184). -/
def execCredit (count : Byte) (s : State) : Host.Outcome State Fault Refusal :=
  .next (s.onFrame .sender fun s =>
    if 1 ≤ count.toNat ∧ count.toNat ≤ Config.creditLimit then s.takeCredit count.toNat else s)

/-! ### Bad and undefined frames (R133, R136, R143, R184) -/

/-- BAD_FRAME (R132, R133, R136, R143). -/
def execBadFrame (s : State) : Host.Outcome State Fault Refusal := .next s.countBad.loseBad

/-- UNDEFINED_FRAME: discarded after it has restarted the silence timer (R136, R184). -/
def execUndefinedFrame (_kind : Byte) (_content : List Byte) (s : State) : Host.Outcome State Fault Refusal :=
  .next (match s.link.state with
    | .down | .training => s
    | .blanking | .up | .cooldown => s.goodFrame)

end Sys2Proof.Machine
end

