-- ==== Sys2Proof/Machine/ReceiverFrames.lean ====
section
/-! DEFINITION. The frames that arrive at a receiver, the receive applier and the demand wait (chapter 9). -/

namespace Sys2Proof.Machine

/-- BEGIN (R150). The identity it carries has no effect on the receiver. DEDUCED (notes/assumptions/40.md). A number of 0 is
taken like any other. DEDUCED (notes/assumptions/24.md). -/
def execBeginFrame (number : Seq) (_identity : BitVec 64) (first : Seq) (s : State) :
    Host.Outcome State Fault Refusal :=
  .next (s.onFrame .receiver fun s => if s.rx.state = .live then s else s.takeBegin number first)

/-- RESUME, the frame (R153). -/
def State.takeResume (s : State) (number next : Seq) : State :=
  if number = s.rx.held ∧ s.rx.held ≠ 0 ∧ s.rx.state.active = true then
    State.hand { s with rx.seen := next, rx.discard := false } (.resumeAck s.rx.held)
  else s.hand (.resumeRefuse s.rx.held)

/-- RESUME_FRAME (R153). -/
def execResumeFrame (number next : Seq) (s : State) : Host.Outcome State Fault Refusal :=
  .next (s.onFrame .receiver fun s => s.takeResume number next)

/-- ABANDON (R154). A reason outside its set has no effect (R184). -/
def execAbandon (reason : Byte) (s : State) : Host.Outcome State Fault Refusal :=
  .next (s.onFrame .receiver fun s => if reason.toNat ≤ 14 then s.takeAbandon else s)

/-- Step 1 of RESYNC: the credit of lost frames (R157). -/
def State.creditLost (s : State) (sentTotal : Seq) : State :=
  let lost := sentTotal - s.rx.arrived - s.rx.lossCredited
  if 1 ≤ lost.toNat ∧ lost.toNat ≤ Config.creditLimit then
    State.giveCredit { s with rx.lossCredited := s.rx.lossCredited + lost } lost.toNat
  else s

/-- Steps 2 and 3 of RESYNC: the numbering, and the marker at the tail of the buffer (R157). -/
def State.renumber (s : State) (number : Seq) : State :=
  let s1 := { s with rx.seen := number, rx.discard := false }
  if s1.streamOpen then { s1 with rx.buffer := s1.rx.buffer ++ [.marker number] } else s1

/-- RESYNC (R157). -/
def execResync (number sentTotal : Seq) (s : State) : Host.Outcome State Fault Refusal :=
  .next (s.onFrame .receiver fun s => (s.creditLost sentTotal).renumber number)

/-- An ordered frame arrives (R156). -/
def State.arriveOrdered (s : State) (seq : Seq) (body : OrderedBody) : State :=
  let s1 := { s with rx.arrived := s.rx.arrived + 1 }
  if !s1.streamOpen || s1.rx.discard then s1.giveCredit 1
  else if seq = s1.rx.seen ∧ s1.rx.frames < Config.creditLimit then
    { s1 with rx.buffer := s1.rx.buffer ++ [.frame seq body], rx.seen := s1.rx.seen + 1 }
  else
    let s2 := (s1.giveCredit 1).hand (.gap s1.rx.seen)
    { s2 with rx.discard := true }

/-- ORDERED_FRAME_ARRIVAL (R156). -/
def execOrderedFrameArrival (seq : Seq) (body : OrderedBody) (s : State) : Host.Outcome State Fault Refusal :=
  .next (s.onFrame .receiver fun s => s.arriveOrdered seq body)

/-- APPLIER_TAKE: with no frame in application the applier drops the markers it reaches and takes the next frame
(R157, R158). DEDUCED (notes/assumptions/36.md). -/
def execApplierTake (s : State) : Host.Outcome State Fault Refusal :=
  .next (if s.mgmt.role = .receiver && s.rx.applying.isNone then s.dropMarkers.takeFrame else s)

/-- DEMAND_WAIT_EXPIRY of a tile with a demand table entry (R165). -/
def execDemandWaitExpiry (tile : Nat) (s : State) : Host.Outcome State Fault Refusal :=
  .next (if s.rx.demands.any fun d => d.tile == tile then s.demandExpire tile else s)

end Sys2Proof.Machine
end

