-- ==== Sys2Proof/Machine/LinkEvents.lean ====
section
/-! DEFINITION. The transmitter, the link's lanes and timers, and the EVT line's timers (chapters 8 and 11). -/

namespace Sys2Proof.Machine

/-! ### The transmitter (R137 to R140) -/

/-- TRANSMIT (R137, R138). -/
def execTransmit (s : State) : Host.Outcome State Fault Refusal := .next s.transmitNext

/-- KEEPALIVE_DUE (R139). -/
def execKeepaliveDue (s : State) : Host.Outcome State Fault Refusal :=
  .next (if s.link.state.isOpen then { s with link.keepaliveDue := true } else s)

/-- HELLO_TIMER_EXPIRY (R140). -/
def execHelloTimerExpiry (s : State) : Host.Outcome State Fault Refusal :=
  .next (if s.link.state.isOpen && s.link.hello.isSome then s.raiseControl .hello else s)

/-- BLANKING_HELLO_TIMER (R132, R140). -/
def execBlankingHelloTimer (s : State) : Host.Outcome State Fault Refusal :=
  .next (if s.link.state = .blanking then s.raiseControl .hello else s)

/-! ### Lanes and timers (R129 to R134) -/

/-- A receive lane loses its signal. -/
def State.loseLane (s : State) (lane : Fin 2) : State :=
  match lane with
  | 0 => { s with link.signal0 := false }
  | 1 => { s with link.signal1 := false }

/-- LOSS_OF_SIGNAL on a receive lane (R129). -/
def execLossOfSignal (lane : Fin 2) (s : State) : Host.Outcome State Fault Refusal :=
  let s1 := s.loseLane lane
  .next (if s1.link.state = .down then s1 else s1.linkDown)

/-- SILENCE_EXPIRY (R129, R131). -/
def execSilenceExpiry (s : State) : Host.Outcome State Fault Refusal :=
  .next (if s.link.silence.isSome then s.linkDown else s)

/-- QUIET_TIME_EXPIRY (R130). -/
def execQuietTimeExpiry (s : State) : Host.Outcome State Fault Refusal :=
  .next (if s.link.quiet.isSome then State.tryTrain { s with link.quiet := none } else s)

/-- LANE_SIGNAL: both receive lanes show signal (R130). DEDUCED (notes/assumptions/20.md). -/
def execLaneSignal (s : State) : Host.Outcome State Fault Refusal :=
  .next (State.tryTrain { s with link.signal0 := true, link.signal1 := true })

/-- Entry to BLANKING; with a blanking time of 0 the first HELLO is sent and UP is entered at once (R130, R132). -/
def State.enterBlanking (s : State) : State :=
  let s1 := { s with link.state := .blanking, link.blanking := some s.cfg.blanking.time }
  if s.cfg.blanking.time = 0 then State.enterUp (s1.send (.hello s1.helloBody))
  else s1.raiseControl .hello

/-- TRAINED (R130). -/
def execTrained (s : State) : Host.Outcome State Fault Refusal :=
  .next (if s.link.state = .training then s.enterBlanking else s)

/-- BLANKING_END (R132). -/
def execBlankingEnd (s : State) : Host.Outcome State Fault Refusal :=
  .next (if s.link.state = .blanking && s.link.blanking.isSome then s.enterUp else s)

/-- The return to UP at the end of the off-time, with a peer departure that was reported in COOLDOWN and that the peer's
most recent HELLO still reports (R134, R141). -/
def State.returnUp (s : State) : State :=
  let s1 := State.raiseControl { s with link.state := .up, link.offTime := none, link.departure := false } .hello
  match s1.link.peer with
  | some p => if s.link.departure && s1.departs p then s1.linkDown else s1
  | none => s1

/-- OFF_TIME_END (R134). -/
def execOffTimeEnd (s : State) : Host.Outcome State Fault Refusal :=
  .next (if s.link.state = .cooldown && s.link.offTime.isSome then s.returnUp else s)

/-! ### The EVT line (R180) -/

/-- EVT_PULSE_END (R180). -/
def execEvtPulseEnd (s : State) : Host.Outcome State Fault Refusal :=
  .next (match s.mgmt.evt with
    | .pulsing => { s with mgmt.evt := .guarding false }
    | .low | .guarding _ => s)

/-- EVT_GUARD_END (R180). -/
def execEvtGuardEnd (s : State) : Host.Outcome State Fault Refusal :=
  .next (match s.mgmt.evt with
    | .guarding true => { s with mgmt.evt := .pulsing }
    | .guarding false => { s with mgmt.evt := .low }
    | .low | .pulsing => s)

end Sys2Proof.Machine
end

