-- ==== Sys2Proof/Machine/Resets.lean ====
section
/-! DEFINITION. The three resets and the end of a warm reset (R18, R19, R25, R29, R35, R54, R80, R81, R112, R128, R147,
R166, R174, R183). -/

namespace Sys2Proof.Machine

/-! ### Power-on (R183) -/

/-- POWER_ON. Every setting and all state take their power-on values and the straps are sampled. The levels the pins
show, the waiting commands and the model's own traces are not the part's to reset.
DEDUCED (notes/assumptions/14.md). -/
def execPowerOn (straps : BitVec 3) (s : State) : Host.Outcome State Fault Refusal :=
  .next { State.reset with
    mem := { MemoryPath.reset with nextId := s.mem.nextId, nearOut := s.mem.nearOut }
    link := { Link.reset with signal0 := s.link.signal0, signal1 := s.link.signal1, linkOut := s.link.linkOut }
    mgmt := { Management.reset with cue := s.mgmt.cue, pace := s.mgmt.pace, straps := straps }
    pending := s.pending }

/-! ### Reset values that several resets share -/

/-- A campaign that runs other than in HANDED_OVER when a reset finds it has its exit record written (R80). -/
def State.recordReset (s : State) (reason : ExitReason) : State :=
  if s.runs && s.camp.state != .handedOver then s.writeExit reason else s

/-- The latched conditions, the event tally and the EVT line at a reset (R179, R180). -/
def Management.quieted (m : Management) : Management :=
  { m with latches := 0, tally := Vector.replicate 6 0, evt := .low }

/-! ### Warm reset (R183) -/

/-- The warm effects of every chapter. -/
def State.warm (s : State) : State :=
  { s with
    mem := { MemoryPath.reset with nextId := s.mem.nextId, nearOut := s.mem.nearOut }
    mon := WriteMonitor.reset
    tables := { s.tables with pending := none }
    map := 0
    camp := s.camp.cleared
    conv := Convergence.reset s.cfg.share
    eng := CopyEngine.reset
    aud := Audit.reset
    txq := TxQueue.reset
    link := { Link.reset with signal0 := s.link.signal0, signal1 := s.link.signal1, linkOut := s.link.linkOut }
    rx := Receiver.reset
    mgmt := { s.mgmt.quieted with reply := ⟨.ok, []⟩, inReset := true } }

/-- WARM_RESET (R183). -/
def execWarmReset (s : State) : Host.Outcome State Fault Refusal := .next (s.recordReset .warmReset).warm

/-- RESET_N_HIGH: the part leaves the warm reset (R183). -/
def execResetNHigh (s : State) : Host.Outcome State Fault Refusal :=
  .next (if s.mgmt.inReset then State.tryTrain { s with mgmt.inReset := false } else s)

/-! ### Soft reset (R183) -/

/-- The memory path at a soft reset: held transfers are released, internal transfers abandoned, and the grant frame
starts again (R19). -/
def State.softPath (s : State) : State :=
  let s1 := s.release.abandonInternal
  { s1 with
    mem.frameGrants := 0
    mon.stall := .stopped
    mon.degrade := 0 }

/-- The engines and both roles' state machines at a soft reset (R29, R35, R80, R81, R112, R128, R166, R174). -/
def State.softEngines (s : State) : State :=
  { s with
    tables.pending := none
    map := 0
    camp := s.camp.cleared
    conv := Convergence.reset s.cfg.share
    eng := CopyEngine.reset
    aud := Audit.reset
    txq := s.txq.emptied
    rx := s.rx.cleared }

/-- The credits of the CREDIT frames in a report list (R142, R147). -/
def creditsWaiting (rs : List Report) : Seq :=
  rs.foldl (fun n r => creditLeaving n r) 0

/-- The link's lists at a soft reset: emptied, then the ABANDON of a campaign that ran, the credits of the frames removed
from the buffer, and a HELLO in UP, COOLDOWN and BLANKING but not in DOWN and TRAINING (R146, R147, R183). DEDUCED
(notes/assumptions/32.md). -/
def State.softLists (s : State) (ran : Bool) (removed : Nat) : State :=
  let s1 := { s with
    link.control := []
    link.reports := []
    link.creditTotal := s.link.creditTotal + creditsWaiting s.link.reports }
  let s2 := if ran && s1.link.state == .up then s1.raiseControl (.abandon .softReset Config.abandonCopies) else s1
  let s3 := s2.giveCredit removed
  if s3.link.state.isOpen || s3.link.state == .blanking then s3.raiseControl .hello else s3

/-- The effects of a soft reset, in the order of R183. -/
def State.soft (s : State) : State :=
  let s1 := (((s.recordReset .softReset).softPath).softEngines).softLists s.runs s.rx.frames
  { s1 with mgmt := s1.mgmt.quieted }

/-- SOFT_RESET: its reply is stored before the reset acts (R183). -/
def execSoftReset (s : State) : Host.Outcome State Fault Refusal := s.command fun s => (s.reply .ok []).soft

end Sys2Proof.Machine
end

