-- ==== Sys2Proof/Machine/Dispatch.lean ====
section
/-! DEFINITION. Dispatch: one arm for each command, each one call of that command's meaning. -/

namespace Sys2Proof.Machine

def exec (i : Instr) (s : State) : Host.Outcome State Fault Refusal :=
  match i with
  | .nearTransfer tag kind addr mask data => Sys2Proof.Machine.execNearTransfer tag kind addr mask data s
  | .arbiterGrant => Sys2Proof.Machine.execArbiterGrant s
  | .farTermination id term => Sys2Proof.Machine.execFarTermination id term s
  | .pairHoldExpiry tag => Sys2Proof.Machine.execPairHoldExpiry tag s
  | .stallLimitExpiry => Sys2Proof.Machine.execStallLimitExpiry s
  | .setRole role => Sys2Proof.Machine.execSetRole role s
  | .setSize size => Sys2Proof.Machine.execSetSize size s
  | .setIdentity identity => Sys2Proof.Machine.execSetIdentity identity s
  | .loadRegion region base count policy regionEnd => Sys2Proof.Machine.execLoadRegion region base count policy regionEnd s
  | .clearRegion region => Sys2Proof.Machine.execClearRegion region s
  | .loadBank bank entries => Sys2Proof.Machine.execLoadBank bank entries s
  | .selectBank bank => Sys2Proof.Machine.execSelectBank bank s
  | .setTuning args => Sys2Proof.Machine.execSetTuning args s
  | .setShare share => Sys2Proof.Machine.execSetShare share s
  | .setLines cueMode paceEnable eventMask alertMask => Sys2Proof.Machine.execSetLines cueMode paceEnable eventMask alertMask s
  | .setLink enable blanking offTime relink peerWait => Sys2Proof.Machine.execSetLink enable blanking offTime relink peerWait s
  | .arm => Sys2Proof.Machine.execArm s
  | .disarm => Sys2Proof.Machine.execDisarm s
  | .start => Sys2Proof.Machine.execStart s
  | .breakCmd => Sys2Proof.Machine.execBreakCmd s
  | .resumeCmd => Sys2Proof.Machine.execResumeCmd s
  | .abort kind => Sys2Proof.Machine.execAbort kind s
  | .handover => Sys2Proof.Machine.execHandover s
  | .clearLatches conditions => Sys2Proof.Machine.execClearLatches conditions s
  | .readStatus => Sys2Proof.Machine.execReadStatus s
  | .readCounters => Sys2Proof.Machine.execReadCounters s
  | .readRegion region => Sys2Proof.Machine.execReadRegion region s
  | .readBank bank => Sys2Proof.Machine.execReadBank bank s
  | .readFaults => Sys2Proof.Machine.execReadFaults s
  | .readExit => Sys2Proof.Machine.execReadExit s
  | .softReset => Sys2Proof.Machine.execSoftReset s
  | .unknownCommand code args => Sys2Proof.Machine.execUnknownCommand code args s
  | .powerOn straps => Sys2Proof.Machine.execPowerOn straps s
  | .warmReset => Sys2Proof.Machine.execWarmReset s
  | .cueEdge rising => Sys2Proof.Machine.execCueEdge rising s
  | .paceChange high => Sys2Proof.Machine.execPaceChange high s
  | .startDelayExpiry => Sys2Proof.Machine.execStartDelayExpiry s
  | .planWaitExpiry => Sys2Proof.Machine.execPlanWaitExpiry s
  | .settleExpiry => Sys2Proof.Machine.execSettleExpiry s
  | .passEnd => Sys2Proof.Machine.execPassEnd s
  | .passClose => Sys2Proof.Machine.execPassClose s
  | .auditPassEnd => Sys2Proof.Machine.execAuditPassEnd s
  | .heldRegionQuiet => Sys2Proof.Machine.execHeldRegionQuiet s
  | .freezeRegionComplete => Sys2Proof.Machine.execFreezeRegionComplete s
  | .handoverQueued => Sys2Proof.Machine.execHandoverQueued s
  | .holdBudgetExpiry => Sys2Proof.Machine.execHoldBudgetExpiry s
  | .endingClose => Sys2Proof.Machine.execEndingClose s
  | .peerWaitExpiry => Sys2Proof.Machine.execPeerWaitExpiry s
  | .resumeRepeat => Sys2Proof.Machine.execResumeRepeat s
  | .resumeWaitExpiry => Sys2Proof.Machine.execResumeWaitExpiry s
  | .hello body => Sys2Proof.Machine.execHello body s
  | .keepalive total => Sys2Proof.Machine.execKeepalive total s
  | .planAck number => Sys2Proof.Machine.execPlanAck number s
  | .planRefuse reason => Sys2Proof.Machine.execPlanRefuse reason s
  | .resumeAck number => Sys2Proof.Machine.execResumeAck number s
  | .resumeRefuse number => Sys2Proof.Machine.execResumeRefuse number s
  | .applied seq => Sys2Proof.Machine.execApplied seq s
  | .gap seq => Sys2Proof.Machine.execGap seq s
  | .applyTimeout => Sys2Proof.Machine.execApplyTimeout s
  | .faulted seq tile => Sys2Proof.Machine.execFaulted seq tile s
  | .digestResult seq tile result => Sys2Proof.Machine.execDigestResult seq tile result s
  | .demand tile => Sys2Proof.Machine.execDemand tile s
  | .credit count => Sys2Proof.Machine.execCredit count s
  | .badFrame => Sys2Proof.Machine.execBadFrame s
  | .undefinedFrame kind content => Sys2Proof.Machine.execUndefinedFrame kind content s
  | .beginFrame number identity first => Sys2Proof.Machine.execBeginFrame number identity first s
  | .resumeFrame number next => Sys2Proof.Machine.execResumeFrame number next s
  | .abandon reason => Sys2Proof.Machine.execAbandon reason s
  | .resync number sentTotal => Sys2Proof.Machine.execResync number sentTotal s
  | .orderedFrameArrival seq body => Sys2Proof.Machine.execOrderedFrameArrival seq body s
  | .applierTake => Sys2Proof.Machine.execApplierTake s
  | .demandWaitExpiry tile => Sys2Proof.Machine.execDemandWaitExpiry tile s
  | .transmit => Sys2Proof.Machine.execTransmit s
  | .keepaliveDue => Sys2Proof.Machine.execKeepaliveDue s
  | .helloTimerExpiry => Sys2Proof.Machine.execHelloTimerExpiry s
  | .blankingHelloTimer => Sys2Proof.Machine.execBlankingHelloTimer s
  | .lossOfSignal lane => Sys2Proof.Machine.execLossOfSignal lane s
  | .silenceExpiry => Sys2Proof.Machine.execSilenceExpiry s
  | .quietTimeExpiry => Sys2Proof.Machine.execQuietTimeExpiry s
  | .laneSignal => Sys2Proof.Machine.execLaneSignal s
  | .trained => Sys2Proof.Machine.execTrained s
  | .blankingEnd => Sys2Proof.Machine.execBlankingEnd s
  | .offTimeEnd => Sys2Proof.Machine.execOffTimeEnd s
  | .evtPulseEnd => Sys2Proof.Machine.execEvtPulseEnd s
  | .evtGuardEnd => Sys2Proof.Machine.execEvtGuardEnd s
  | .resetNHigh => Sys2Proof.Machine.execResetNHigh s

end Sys2Proof.Machine
end

