-- ==== Sys2Proof/Safety.lean ====
section
/-! DEFINITION. What counts as a safe state, in the terms the statements use: the ranges, the capacities and the laws that
the manual says always hold. Each is a property of one state. -/

namespace Sys2Proof.Machine

/-- Every setting lies in its range (R17, R53, R79, R93, R120, R165). -/
def Settings.InRange (c : Settings) : Prop :=
  (1 ≤ c.share ∧ c.share ≤ 64) ∧ c.startDelay ≤ 60000 ∧ c.settleDelay ≤ 1000
    ∧ (100 ≤ c.holdBudget ∧ c.holdBudget ≤ 100000) ∧ c.mirrorThreshold ≤ 131071 ∧ c.passLimit ≤ 65535
    ∧ (1 ≤ c.stallRatio ∧ c.stallRatio ≤ 1023) ∧ c.step ≤ 16 ∧ (1 ≤ c.ceiling ∧ c.ceiling ≤ 64)
    ∧ c.stallLimit ≤ 1000 ∧ (1 ≤ c.applyTimeout ∧ c.applyTimeout ≤ 100)
    ∧ (1 ≤ c.demandWait ∧ c.demandWait ≤ 100) ∧ (1 ≤ c.peerWait ∧ c.peerWait ≤ 600)

/-- The settings, the memory size and the share stand in their ranges, and a grant frame has at most 64 grants and at most
64 credits (R14, R15, R176). -/
def State.InRange (s : State) : Prop :=
  s.cfg.InRange ∧ (1 ≤ s.mgmt.size ∧ s.mgmt.size ≤ 131072) ∧ (1 ≤ s.conv.share ∧ s.conv.share ≤ 64)
    ∧ s.mem.frameGrants < 64 ∧ s.mem.credit ≤ 64

/-- No counter passes its limit (R51, R61, R82, R83, R86, R180; 10.2). -/
def State.Saturated (s : State) : Prop :=
  s.conv.k ≤ 1048575 ∧ s.conv.w ≤ 1048575 ∧ s.conv.s ≤ 1023 ∧ s.camp.passNumber ≤ 65535 ∧ s.mon.degrade ≤ 65535
    ∧ s.aud.mismatch ≤ 16384 ∧ (∀ n ∈ s.mgmt.tally.toList, n ≤ 255)
    ∧ (∀ p, s.conv.lastPass = some p → p.rho ≤ 1023 ∧ p.s ≤ 1023)

/-- The sender's tables hold no more than they may, and no tile twice (R6, R109, R110, R113, R119; 6.1). -/
def State.SenderFits (s : State) : Prop :=
  s.eng.inFlight.length ≤ 4 ∧ (s.eng.inFlight.map fun e => e.tile).Nodup
    ∧ s.eng.demandQueue.length ≤ 8 ∧ s.eng.demandQueue.Nodup
    ∧ s.eng.faults.length ≤ 16 ∧ (s.eng.faults.map fun f => f.tile).Nodup
    ∧ s.txq.credits ≤ 128 ∧ s.mem.internal ≤ 16

/-- The receiver's tables hold no more than they may and no tile twice, and no tile stands both in the demand table and in the
expired list; the applied-since-report count is below 16, and 0 from a link loss until the frame then in application is applied
(R138, R155, R156, R161, R163, R165; 9.1). -/
def State.ReceiverFits (s : State) : Prop :=
  s.rx.frames ≤ 128 ∧ s.link.reports.length ≤ 64
    ∧ s.rx.demands.length ≤ 8 ∧ s.rx.expired.length ≤ 8
    ∧ ((s.rx.demands.map fun d => d.tile) ++ s.rx.expired).Nodup
    ∧ s.rx.quarantine.length ≤ 16 ∧ s.rx.quarantine.Nodup
    ∧ s.rx.appliedCount < 16
    ∧ ∀ a, s.rx.applying = some a → a.silent = true → s.rx.appliedCount = 0

/-- The link's timers run in their own states, and outside UP and COOLDOWN there are no credits and no reports waiting
(8.1, R119, R129 to R134). -/
def State.LinkConsistent (s : State) : Prop :=
  (s.link.silence.isSome = true ↔ s.link.state ≠ .down)
    ∧ (s.link.quiet.isSome = true → s.link.state = .down)
    ∧ (s.link.blanking.isSome = true ↔ s.link.state = .blanking)
    ∧ (s.link.offTime.isSome = true ↔ s.link.state = .cooldown)
    ∧ (s.link.hello.isSome = true ↔ s.link.state.isOpen = true)
    ∧ s.link.burst < 4
    ∧ (s.link.state.isOpen = false → s.txq.credits = 0 ∧ s.link.reports = [])
    ∧ (s.link.state = .down → s.link.peer = none)
    ∧ (s.link.departure = true → s.link.state = .cooldown)

/-- No transfer at the far port has the number of another, nor one that is still to be given (R6). -/
def State.IdsFresh (s : State) : Prop :=
  (s.mem.outstanding.map fun x => x.id).Nodup ∧ ∀ x ∈ s.mem.outstanding, x.id < s.mem.nextId

/-- The tags of the PASS transfers outstanding at the far port. -/
def MemoryPath.passTags (m : MemoryPath) : List (Fin 16) :=
  m.outstanding.filterMap fun x => match x.owner with
    | .pass tag => some tag
    | .copy _ _ | .apply _ | .fill _ _ | .abandoned => none

/-- The tags of the transfers in passage: in the pass-through queue or outstanding at the far port (R44). -/
def MemoryPath.inPassage (m : MemoryPath) : List (Fin 16) := m.queue.map (fun x => x.tag) ++ m.passTags

/-- Every outstanding tag belongs to exactly one transfer, which stands in the pass-through queue, in the hold list or at
the far port, and the passage record lists the tags in passage (R1, R4, R8, R44). -/
def State.TagsAccounted (s : State) : Prop :=
  s.IdsFresh
    ∧ (s.mem.inPassage ++ s.mem.holdList.map fun x => x.tag).Nodup
    ∧ (∀ tag : Fin 16, s.mem.tags[tag].outstanding = true ↔
        tag ∈ s.mem.inPassage ++ s.mem.holdList.map fun x => x.tag)
    ∧ (s.mon.passage.map fun p => p.tag).Perm s.mem.inPassage

/-- While the sender is in INSYNC no scope COPY tile that is not quarantined is dirty, and none is in flight (R65). -/
def State.SyncLaw (s : State) : Prop :=
  s.mgmt.role = .sender → s.camp.state = .insync →
    ∀ t : Nat, s.scopeIs .copy t = true → s.quarantined t = false → s.bit t = false ∧ s.isInFlight t = false

/-- The two holds stand in their own states and never together, and nothing is held without a hold (R39, R40). -/
def State.HoldLaw (s : State) : Prop :=
  (s.mon.drainHold = true → s.camp.state = .drain ∨ s.camp.state = .ending)
    ∧ (s.mon.regionHold.isSome = true → s.camp.state = .freeze ∨ s.camp.state = .ending)
    ∧ ¬(s.mon.drainHold = true ∧ s.mon.regionHold.isSome = true)
    ∧ (s.mem.holdList ≠ [] → s.mon.drainHold = true ∨ s.mon.regionHold.isSome = true)

/-- A pending bank stands only in SWEEP and SETTLE, where it is selected, and in STALLED and ENDING (R27, R28, R76). -/
def State.PendingLaw (s : State) : Prop :=
  s.tables.pending.isSome = true →
    s.camp.state = .sweep ∨ s.camp.state = .settle ∨ s.camp.state = .stalled ∨ s.camp.state = .ending

/-- The transmit queue holds at most 256 entries, its mark backlog is empty while the queue has room (R113, R114), and the
model's numbers of its entries are distinct and below the next one. -/
def State.QueueLaw (s : State) : Prop :=
  s.txq.queue.length ≤ 256 ∧ (s.txq.queue.length < 256 → s.txq.backlog = [])
    ∧ (s.txq.queue.map fun e => e.id).Nodup ∧ ∀ e ∈ s.txq.queue, e.id < s.txq.nextEntry

/-- A part of one role holds nothing in the other role's engines: a receiver is in the sender's IDLE, and a sender in the
receiver's (R176, R178). -/
def State.RoleLaw (s : State) : Prop :=
  (s.mgmt.role = .receiver → s.camp.state = .idle ∧ s.eng.inFlight = [] ∧ s.txq.queue = [] ∧ s.txq.backlog = [])
    ∧ (s.mgmt.role = .sender →
      s.rx.state = .idle ∧ s.rx.held = 0 ∧ s.rx.buffer = [] ∧ s.rx.applying = none ∧ s.rx.fill = .stopped)

/-- The state is safe. -/
def State.Safe (s : State) : Prop :=
  s.InRange ∧ s.Saturated ∧ s.SenderFits ∧ s.ReceiverFits ∧ s.LinkConsistent ∧ s.TagsAccounted ∧ s.SyncLaw
    ∧ s.HoldLaw ∧ s.PendingLaw ∧ s.QueueLaw ∧ s.RoleLaw

/-! ### States that the statements name

Each is written out field by field, apart from the operations that the meanings call, so that a statement says what a
command leaves and, with every field it does not name, what it leaves alone. -/

/-- The blocks of the part. -/
inductive Block where
  | mem | mon | tables | map | camp | conv | eng | aud | txq | link | rx | mgmt | cfg | pending
  deriving DecidableEq, Repr

/-- A block is the same in two states. -/
def State.agreesOn (s t : State) : Block → Prop
  | .mem => t.mem = s.mem
  | .mon => t.mon = s.mon
  | .tables => t.tables = s.tables
  | .map => t.map = s.map
  | .camp => t.camp = s.camp
  | .conv => t.conv = s.conv
  | .eng => t.eng = s.eng
  | .aud => t.aud = s.aud
  | .txq => t.txq = s.txq
  | .link => t.link = s.link
  | .rx => t.rx = s.rx
  | .mgmt => t.mgmt = s.mgmt
  | .cfg => t.cfg = s.cfg
  | .pending => t.pending = s.pending

/-- Only the listed blocks may differ. -/
def State.changesOnly (s t : State) (bs : List Block) : Prop := ∀ b : Block, b ∉ bs → s.agreesOn t b

/-- A transfer answered at acceptance: its tag is free with an empty lock record, and the termination is given (R3, R43). -/
def State.answered (s : State) (tag : Fin 16) (term : Term) : State :=
  { s with
    mem.tags := s.mem.tags.set tag ⟨false, none⟩
    mem.nearOut := s.mem.nearOut ++ [⟨tag, term⟩] }

/-- A transfer accepted and held (R8). -/
def State.held (s : State) (x : Transfer) (lock : Option Addr) : State :=
  { s with
    mem.tags := s.mem.tags.set x.tag ⟨true, lock⟩
    mem.holdList := s.mem.holdList ++ [x] }

/-- A transfer accepted and forwarded (R3, R44). -/
def State.forwarded (s : State) (x : Transfer) (lock : Option Addr) : State :=
  { s with
    mem.tags := s.mem.tags.set x.tag ⟨true, lock⟩
    mem.queue := s.mem.queue ++ [x]
    mon.passage := s.mon.passage ++ [⟨x.tag, x.kind, tileOf x.addr⟩] }

/-- The kind a transfer is judged with: a LOCK_WRITE that closes no pair is a WRITE from its acceptance on (R11). -/
def State.kindAt (s : State) (tag : Fin 16) (kind : XferKind) (addr : Addr) : XferKind :=
  if kind = .lockWrite ∧ s.mem.tags[tag].lock ≠ some addr then .write else kind

/-- The lock record after the acceptance of a transfer that is not answered: kept by the closing half of a pair, emptied by
any other transfer (R11). -/
def State.lockAfter (s : State) (tag : Fin 16) (kind : XferKind) (addr : Addr) : Option Addr :=
  if kind = .lockWrite ∧ s.mem.tags[tag].lock = some addr then some addr else none

/-- A reply stored and nothing else changed (R175). -/
def State.replied (s : State) (status : Status) (data : List Byte) : State := { s with mgmt.reply := ⟨status, data⟩ }

/-- The far-port transfers once no in-flight entry holds its reads (R107). -/
def MemoryPath.withoutCopies (m : MemoryPath) : List FarTransfer :=
  m.outstanding.map fun x => match x.owner with
    | .copy _ _ => { x with owner := .abandoned }
    | .pass _ | .apply _ | .fill _ _ | .abandoned => x

/-- The sender with a campaign state, and the HELLO that a change of it raises while the link is UP or in COOLDOWN (R140). -/
def State.inState (s : State) (st : SenderState) : State :=
  { s with
    camp.state := st
    link.control := if s.camp.state ≠ st ∧ (s.link.state = .up ∨ s.link.state = .cooldown) then
      controlAdd .hello s.link.control else s.link.control }

/-- What the closing steps leave of a running campaign (R74): the queue and the in-flight table are empty, held transfers
stand at the tail of the pass-through queue, ABANDON is raised if the link is UP, the exit record is written with the counts
as they stood, the mismatch count of an unfinished audit pass is dropped (R172), and the sender is in IDLE with a clear tile
map. -/
def State.ended (s : State) (reason : ExitReason) : State :=
  State.inState
    { s with
      mem := { s.mem with
        queue := s.mem.queue ++ s.mem.holdList
        holdList := []
        outstanding := s.mem.withoutCopies }
      mon := { s.mon with
        regionHold := none
        drainHold := false
        passage := s.mon.passage ++ s.mem.holdList.map fun x => ⟨x.tag, x.kind, tileOf x.addr⟩ }
      tables.pending := none
      map := 0
      camp := { s.camp.stopTimers with
        breakFlag := false
        shareOverride := false
        copyBegun := false
        exit := s.exitRecord reason }
      conv := { s.conv with share := s.cfg.share, boost := false }
      eng := { s.eng with inFlight := [], demandQueue := [] }
      aud.mismatch := if reason = .auditFailed then s.aud.mismatch else 0
      txq := s.txq.emptied
      link.control := if s.link.state = .up then controlAdd (.abandon reason 3) s.link.control else s.link.control
      mgmt := s.mgmt.raise s.cfg.eventMask .campaignEnd } .idle

/-- A tile set dirty, a clear→set transition of a scope COPY tile counting in W up to its limit (R30, R32, R83). -/
def State.dirtied (s : State) (tile : Nat) : State :=
  { s with
    map := setBit s.map tile
    conv.w := if s.bit tile = false ∧ s.scopeIs .copy tile = true then min 1048575 (s.conv.w + 1) else s.conv.w }

/-- What entry to HANDED_OVER leaves (R10, R71, R107): every held write is terminated FAULT in acceptance order and none is
released, the queue and the in-flight table are empty, and the tile map is kept, the tiles that were in flight dirty in it. -/
def State.handedOver (s : State) (reason : ExitReason) : State :=
  let d : State := s.eng.inFlight.foldl (fun u e => u.dirtied e.tile) s
  State.inState
    { s with
      map := d.map
      mem := { s.mem with
        tags := Vector.ofFn fun tag =>
          if s.mem.holdList.any fun x => x.tag == tag then
            ⟨false, if s.mem.holdList.any fun x => x.tag == tag && x.kind == .lockWrite then none
              else s.mem.tags[tag].lock⟩
          else s.mem.tags[tag]
        holdList := []
        nearOut := s.mem.nearOut ++ s.mem.holdList.map fun x => ⟨x.tag, .fault⟩
        outstanding := s.mem.withoutCopies }
      mon := { s.mon with regionHold := none, drainHold := false }
      tables.pending := none
      camp := { s.camp.stopTimers with
        breakFlag := false
        shareOverride := false
        copyBegun := false
        exit := d.exitRecord reason }
      conv := { s.conv with w := d.conv.w, share := s.cfg.share, boost := false }
      eng := { s.eng with inFlight := [], demandQueue := [] }
      txq := s.txq.emptied
      mgmt := (if s.mem.holdList = [] then s.mgmt else
        { s.mgmt with latches := s.mgmt.latches ||| BitVec.twoPow 11 5 }).raise s.cfg.eventMask .campaignEnd } .handedOver

/-- What a grant to PASS leaves of the memory path: the head leaves the queue and is issued, a LOCK_READ fills its tag's
lock record and a LOCK_WRITE empties it, and the grant is counted with the credit unchanged (R7, R11, R14). -/
def State.passGranted (s t : State) (credit : Nat) : Prop :=
  ∀ x rest, s.mem.queue = x :: rest → t.mem =
    { s.mem with
      queue := rest
      tags := s.mem.tags.set x.tag (match x.kind with
        | .lockRead => ⟨s.mem.tags[x.tag].outstanding, some x.addr⟩
        | .lockWrite => ⟨s.mem.tags[x.tag].outstanding, none⟩
        | .read | .write | .readLine | .writeLine => s.mem.tags[x.tag])
      outstanding := s.mem.outstanding ++ [⟨s.mem.nextId, .pass x.tag, x.kind, x.addr, x.mask, x.data⟩]
      nextId := s.mem.nextId + 1
      frameGrants := (s.mem.frameGrants + 1) % 64
      credit := credit }

/-- The memory path after a line read of a tile is issued and counted (R14, R102). -/
def State.lineIssued (s : State) (tile line credit : Nat) : MemoryPath :=
  { s.mem with
    outstanding := s.mem.outstanding ++ [⟨s.mem.nextId, .copy tile line, .readLine, lineAddr tile line, 0, 0⟩]
    nextId := s.mem.nextId + 1
    frameGrants := (s.mem.frameGrants + 1) % 64
    credit := credit }

/-- What a grant to COPY leaves (R14, R94, R102, R103): one line read is issued and counted. It is the next read of the entry
begun earliest that has one, its first line waiting to be read again, else its next line, whose issue is counted in the
entry; with every line of every entry issued and none waiting it is line 0 of a tile that is begun. -/
def State.copyGranted (s t : State) (credit : Nat) : Prop :=
  let spent := fun (e : InFlight) => e.waiting = [] ∧ 512 ≤ e.issued
  ∃ tile line, t.mem = s.lineIssued tile line credit
    ∧ (∀ before e after, s.eng.inFlight = before ++ e :: after → (∀ f ∈ before, spent f) → ¬ spent e →
      tile = e.tile ∧ (∀ l rest, e.waiting = l :: rest → line = l) ∧ (e.waiting = [] → line = e.issued)
        ∧ t = { s with
          mem := t.mem
          eng.inFlight := s.eng.inFlight.map fun f =>
            if f.tile = tile then
              (if e.waiting = [] then { f with issued := f.issued + 1 } else { f with waiting := f.waiting.drop 1 })
            else f })
    ∧ ((∀ e ∈ s.eng.inFlight, spent e) → line = 0
      ∧ ∃ kind, t.eng.inFlight = s.eng.inFlight ++ [InFlight.new tile kind])

/-- A tile that a walk or the dirty scan may offer: dirty, not in flight and not quarantined (R95). -/
def State.offerable (s : State) (tile : Nat) : Prop :=
  s.bit tile = true ∧ s.isInFlight tile = false ∧ s.quarantined tile = false

/-- Entry m of the active bank holds no tile for the sweep walk from its position on: it is invalid, or LATE, ZERO or SKIP, or
a COPY region none of whose remaining tiles may be offered (R61, R97). -/
def State.sweepBare (s : State) (m : Nat) : Prop :=
  ∀ n r, s.bankEntries[m]? = some n → s.tables.region n = some r → r.policy = .copy →
    ∀ u, (r.base + if m = s.eng.sweep.entry then s.eng.sweep.offset else 0) ≤ u → u < r.base + r.count → ¬ s.offerable u

/-- The management unit after the sweep walk has gone from its entry to entry m: REGION_END is raised for each entry passed whose
region is valid with its flag on, a visit that copied nothing included (R61). -/
def State.visitsEnded (s : State) (m : Nat) : Management :=
  ((s.bankEntries.take m).drop s.eng.sweep.entry).foldl (fun g n => match s.tables.region n with
    | some r => if r.regionEnd then g.raise s.cfg.eventMask .regionEnd else g
    | none => g) s.mgmt

/-- The sweep walk has passed every entry that is left (R61). -/
def State.sweptOut (s : State) : State :=
  { s with
    eng.sweep := if s.eng.sweep.entry < s.bankEntries.length then ⟨s.bankEntries.length, 0⟩ else s.eng.sweep
    mgmt := s.visitsEnded s.bankEntries.length }

/-- No pass ends in a state: a tile is in flight, or the walk stands before the end of the bank and cannot pass its last entry
(R61, R84, R97). -/
def State.passGoesOn (s : State) : Prop :=
  s.eng.inFlight ≠ [] ∨ s.eng.sweep.entry < s.bankEntries.length
    ∧ (s.mayBegin = false ∨ s.eng.demandQueue ≠ [] ∨ ∃ m, s.eng.sweep.entry ≤ m ∧ ¬ s.sweepBare m)

/-- The walk can pass every entry that is left, with nothing in flight (R61, R84, R97). -/
def State.passRunsOut (s : State) : Prop :=
  s.eng.inFlight = [] ∧ s.mayBegin = true ∧ s.eng.demandQueue = [] ∧ ∀ m, s.eng.sweep.entry ≤ m → s.sweepBare m

/-- An audit pass has begun in a state (R168): no mismatch is counted and the walk stands at the first tile of the first COPY
region in the active bank's order of first occurrence, done at once where there is none (R172). -/
def State.auditWalkBegun (s t : State) : Prop :=
  let places := s.bankEntries.eraseDups
  let copied := fun n => ∃ r, s.tables.region n = some r ∧ r.policy = .copy
  t.aud.mismatch = 0 ∧ t.aud.walk.offset = 0
    ∧ (t.aud.walkDone = true ↔ ∀ n ∈ places, ¬ copied n)
    ∧ (∀ m n, m < t.aud.walk.entry → places[m]? = some n → ¬ copied n)
    ∧ (t.aud.walkDone = false → ∃ n, places[t.aud.walk.entry]? = some n ∧ copied n)

/-- A pass has begun in a state (R28, R61): the pass number rises, the sweep walk stands at entry 0, and a pending bank has
become active, the COPY and LATE tiles of the regions new in scope dirty and the new plan queued. -/
def State.passBegun (s t : State) (st : SenderState) : Prop :=
  let old := s.tables.validRegions s.tables.active
  t.camp = { s.camp with state := st, passNumber := min 65535 (s.camp.passNumber + 1) }
    ∧ t.eng = { s.eng with sweep := ⟨0, 0⟩ }
    ∧ t.link = (s.inState st).link
    ∧ (s.tables.pending = none → t.map = s.map ∧ t.tables = s.tables ∧ t.txq = s.txq)
    ∧ (∀ b, s.tables.pending = some b →
      t.tables = { s.tables with active := b, pending := none }
        ∧ t.txq = s.txq.join (.plan (s.tables.validRegions b))
        ∧ ∀ tile, t.bit tile = (s.bit tile || (decide (tile < 131072) && (s.tables.validRegions b).any fun r =>
          (r.2.policy == .copy || r.2.policy == .late) && r.2.has tile && !(old.any fun q => q.1 == r.1))))
    ∧ t.mem = s.mem ∧ t.mon = s.mon ∧ t.conv = s.conv ∧ t.aud = s.aud ∧ t.rx = s.rx ∧ t.mgmt = s.mgmt ∧ t.cfg = s.cfg
    ∧ t.pending = s.pending

/-- A relink that does not resume (R77): PEER_CHANGED is recorded, the queue is emptied (R127), and a new campaign starts at
PLAN if the peer is a receiver whose memory holds the plan, else the sender enters IDLE. -/
def State.restartedFor (s t : State) (p : PeerRecord) : Prop :=
  let plan := s.tables.validRegions s.tables.active
  t.camp.exit.reason = .peerChanged ∧ t.camp.exit.number = s.camp.number ∧ t.tables.pending = none
    ∧ t.camp.breakFlag = false ∧ t.camp.peerWait = none ∧ t.camp.resumeWait = none
    ∧ t.txq.record = [] ∧ t.txq.backlog = [] ∧ t.txq.resync = none ∧ t.txq.resyncMark = none
    ∧ (if p.role = .receiver ∧ ∀ r ∈ plan, r.2.base + r.2.count ≤ p.size then
      t.camp.state = .plan ∧ t.camp.number = (if s.camp.number = 0xffff#16 then 1 else s.camp.number + 1)
        ∧ t.camp.peerIdentity = p.identity ∧ t.camp.planWait = some 100000 ∧ t.conv = Convergence.reset s.cfg.share
        ∧ t.txq.queue = [⟨s.txq.nextEntry, .plan plan, 0⟩]
        ∧ t.mgmt = (s.mgmt.raise s.cfg.eventMask .campaignEnd).raise s.cfg.eventMask .campaignStart
    else t.camp.state = .idle ∧ t.camp.number = s.camp.number ∧ t.map = 0 ∧ t.txq.queue = []
      ∧ t.mgmt = s.mgmt.raise s.cfg.eventMask .campaignEnd)

/-- The relink decision for a peer (R77): RESUME is raised and the two waits start for a receiver of the stored identity, not
0, with the current campaign in RECEIVING or INSYNC; any other peer restarts. -/
def State.relinkedFor (s t : State) (p : PeerRecord) : Prop :=
  if p.identity = s.camp.peerIdentity ∧ s.camp.peerIdentity ≠ 0 ∧ p.role = .receiver
      ∧ p.number = s.camp.number ∧ (p.state = 1 ∨ p.state = 2) then
    t.camp = { s.camp with
      peerWait := none
      resumeWait := some 100000
      resumeRepeat := some 10000 }
    ∧ Control.resume s.camp.number s.txq.nextSeq ∈ t.link.control
    ∧ s.changesOnly t [.camp, .link, .txq]
  else s.restartedFor t p

/-- The held transfers released to the tail of the pass-through queue, with the holds and the share override ended (R9,
R16, R39, R40). -/
def State.releasedHolds (s : State) : State :=
  { s with
    mem := { s.mem with queue := s.mem.queue ++ s.mem.holdList, holdList := [] }
    mon := { s.mon with
      regionHold := none
      drainHold := false
      passage := s.mon.passage ++ s.mem.holdList.map fun x => ⟨x.tag, x.kind, tileOf x.addr⟩ }
    camp := { s.camp with shareOverride := false, copyBegun := false } }

/-- A good frame's effect on the link in every state but DOWN and TRAINING: the silence timer restarts and the burst count
is 0 (R131, R133, R136). -/
def State.goodReceived (s : State) : State :=
  { s with link.silence := s.link.silence.map fun _ => 5000, link.burst := 0 }

/-- The link after the receiver has returned n credits in UP or COOLDOWN: added to a waiting CREDIT up to 128, else in a
CREDIT of their own, else, with the list full, in the credit total (R138, R163). -/
def Link.returned (l : Link) (n : Nat) : Link :=
  if n = 0 then l
  else if l.reports.any Report.isCredit then
    { l with reports := l.reports.map fun r => match r with
        | .credit m => .credit (BitVec.ofNat 8 (min 128 (m.toNat + n)))
        | other => other }
  else if l.reports.length < 64 then { l with reports := l.reports ++ [.credit (BitVec.ofNat 8 (min 128 n))] }
  else { l with creditTotal := l.creditTotal + BitVec.ofNat 16 n }

/-- The link after a report other than CREDIT and APPLIED has been handed to it in UP or COOLDOWN: a full list takes none
(R138). -/
def Link.reported (l : Link) (r : Report) : Link :=
  if l.reports.length < 64 then { l with reports := l.reports ++ [r] } else l

/-- A frame is applied where the report list has room: its report is handed, then APPLIED if it is the 16th since the last
one or no frame waits, in the place of an APPLIED that waits (R138, R163). -/
def State.appliedNow (s : State) (seq : Seq) (report : Option Report) : State :=
  let handed := s.link.reports ++ report.toList
  if 16 ≤ s.rx.appliedCount + 1 ∨ ∀ x ∈ s.rx.buffer, x.isFrame = false then
    { s with
      link.reports := (handed.filter fun r => !r.isApplied) ++ [.applied seq]
      rx.applying := none
      rx.appliedCount := 0 }
  else
    { s with
      link.reports := handed
      rx.applying := none
      rx.appliedCount := s.rx.appliedCount + 1 }

end Sys2Proof.Machine
end

