-- ==== Sys2Proof/WellFormed.lean ====
section
/-! DEFINITION. Which terms of the syntax the part can meet: operands that a bus, a frame or a message cannot carry are
ruled out here. The meanings are total all the same. -/

namespace Sys2Proof

open Machine

/-- A single-beat MIRROR carries 16 bytes, and a line MIRROR a byte mask of 0000h (12.2). -/
def bodyFormed : OrderedBody → Bool
  | .mirror _ line mask data => if line then mask == 0 else decide (data.toNat < 2 ^ 128)
  | .plan _ _ _ _ _ | .planEnd | .tileChunk _ _ _ | .digest _ _ | .syncMark | .unsyncMark | .quarantine _
  | .abandonTile _ | .handover => true

/-- Whether a command can reach the part with these operands: a single beat has 16 bytes, a message at most 255 argument
bytes (R185), an unknown command is none of the table's (R175), an undefined frame is of no defined kind and length
(R184), and a demand wait belongs to a tile of the window. DESIGN CHOICE (notes/assumptions/42.md). -/
def wellFormed : Instr → Bool
  | .nearTransfer _tag kind _addr _mask data => kind.isLine || decide (data.toNat < 2 ^ 128)
  | .arbiterGrant => true
  | .farTermination _ _ => true
  | .pairHoldExpiry _ => true
  | .stallLimitExpiry => true
  | .setRole _ => true
  | .setSize _ => true
  | .setIdentity _ => true
  | .loadRegion _ _ _ _ _ => true
  | .clearRegion _ => true
  | .loadBank _bank entries => decide (entries.length ≤ 253)
  | .selectBank _ => true
  | .setTuning _ => true
  | .setShare _ => true
  | .setLines _ _ _ _ => true
  | .setLink _ _ _ _ _ => true
  | .arm => true
  | .disarm => true
  | .start => true
  | .breakCmd => true
  | .resumeCmd => true
  | .abort _ => true
  | .handover => true
  | .clearLatches _ => true
  | .readStatus => true
  | .readCounters => true
  | .readRegion _ => true
  | .readBank _ => true
  | .readFaults => true
  | .readExit => true
  | .softReset => true
  | .unknownCommand code args => decide (args.length ≤ 255) && (readCommand code.toNat args).isNone
  | .powerOn _ => true
  | .warmReset => true
  | .cueEdge _ => true
  | .paceChange _ => true
  | .startDelayExpiry => true
  | .planWaitExpiry => true
  | .settleExpiry => true
  | .passEnd => true
  | .passClose => true
  | .auditPassEnd => true
  | .heldRegionQuiet => true
  | .freezeRegionComplete => true
  | .handoverQueued => true
  | .holdBudgetExpiry => true
  | .endingClose => true
  | .peerWaitExpiry => true
  | .resumeRepeat => true
  | .resumeWaitExpiry => true
  | .hello _ => true
  | .keepalive _ => true
  | .planAck _ => true
  | .planRefuse _ => true
  | .resumeAck _ => true
  | .resumeRefuse _ => true
  | .applied _ => true
  | .gap _ => true
  | .applyTimeout => true
  | .faulted _ _ => true
  | .digestResult _ _ _ => true
  | .demand _ => true
  | .credit _ => true
  | .badFrame => true
  | .undefinedFrame kind content => decide (goodCommand kind content = .undefinedFrame kind content)
  | .beginFrame _ _ _ => true
  | .resumeFrame _ _ => true
  | .abandon _ => true
  | .resync _ _ => true
  | .orderedFrameArrival _seq body => bodyFormed body
  | .applierTake => true
  | .demandWaitExpiry tile => decide (tile < Config.tiles)
  | .transmit => true
  | .keepaliveDue => true
  | .helloTimerExpiry => true
  | .blankingHelloTimer => true
  | .lossOfSignal _ => true
  | .silenceExpiry => true
  | .quietTimeExpiry => true
  | .laneSignal => true
  | .trained => true
  | .blankingEnd => true
  | .offTimeEnd => true
  | .evtPulseEnd => true
  | .evtGuardEnd => true
  | .resetNHigh => true

end Sys2Proof
end

