-- ==== Sys2Proof/Certificates/Slice0/Obligations.lean ====
section
/-! DEFINITION. The statements for the provers. OBLIGATIONS.json lists them with the rules they come from. -/

open Sys2Proof Sys2Proof.Machine

/-! ### The step, the reset and the management line as wholes -/

/-- A step runs the command at the front of the queue, on the state with the rest of the queue. DESIGN CHOICE
(notes/assumptions/1.md): on an empty queue the part idles. -/
def Obligations.StepRunsFrontCommand : Prop :=
  (∀ (c : Instr) (rest : List Instr) (s : State),
    step { s with pending := c :: rest } = exec c { s with pending := rest })
  ∧ ∀ s : State, s.pending = [] → step s = .next s

/-- No command stops the part, and none touches the queue of those that wait behind it. -/
def Obligations.EveryCommandAnswers : Prop :=
  ∀ (c : Instr) (s : State), ∃ t, exec c s = .next t ∧ t.pending = s.pending

/-- R183: in a power-on or warm reset the near port accepts nothing and the management line acknowledges nothing. -/
def Obligations.NothingIsTakenInReset : Prop :=
  ∀ (c : Instr) (s : State), s.mgmt.inReset = true →
    ((commandParts c).isSome = true ∨ ∃ tag kind addr mask data, c = .nearTransfer tag kind addr mask data) →
    exec c s = .next s

/-- R175: a management command that is answered with a status other than OK and CLAMPED has changed nothing but the last
reply, and that reply carries no data (R185). -/
def Obligations.RefusedCommandsChangeOnlyTheReply : Prop :=
  ∀ (c : Instr) (s t : State), (commandParts c).isSome = true → s.mgmt.inReset = false → exec c s = .next t →
    t.mgmt.reply.status ≠ .ok → t.mgmt.reply.status ≠ .clamped → t = s.replied t.mgmt.reply.status []

/-- The campaign commands out of their role and states: ROLE on a receiver, BUSY in every sender state that R55, R56,
R66, R67 and R73 do not name for the command. R55, R66: ARM, DISARM, BREAK and RESUME in the states that take them. -/
def Obligations.CampaignCommandsByState : Prop :=
  (∀ s : State, s.mgmt.inReset = false →
      (s.mgmt.role = .receiver →
        (∀ c ∈ [Instr.arm, .disarm, .start, .breakCmd, .resumeCmd, .handover], exec c s = .next (s.replied .role []))
        ∧ ∀ kind : Byte, exec (.abort kind) s = .next (s.replied .role []))
      ∧ (s.mgmt.role = .sender →
        (s.camp.state ≠ .idle → exec .arm s = .next (s.replied .busy []))
        ∧ (s.camp.state ∉ [SenderState.armed, .handedOver] → exec .disarm s = .next (s.replied .busy []))
        ∧ (s.camp.state ≠ .armed → exec .start s = .next (s.replied .busy []))
        ∧ (s.camp.state ∉ [SenderState.sweep, .settle, .mirror, .audit] → exec .breakCmd s = .next (s.replied .busy []))
        ∧ (s.camp.state ≠ .insync → exec .handover s = .next (s.replied .busy []))
        ∧ (s.camp.state ∈ [SenderState.idle, .armed, .handedOver] →
          exec .resumeCmd s = .next (s.replied .busy [])
          ∧ ∀ kind : Byte, exec (.abort kind) s = .next (s.replied .busy []))))
  ∧ (∀ s : State, s.mgmt.inReset = false → s.mgmt.role = .sender →
      (s.camp.state = .idle → exec .arm s = .next (State.replied (s.inState .armed) .ok []))
      ∧ (s.camp.state = .armed ∨ s.camp.state = .handedOver →
        exec .disarm s = .next (State.replied { s.inState .idle with map := 0 } .ok []))
      ∧ (s.camp.state ∈ [SenderState.sweep, .settle, .mirror, .audit] →
        exec .breakCmd s = .next (State.replied { s with camp.breakFlag := true } .ok []))
      ∧ (s.camp.state ∉ [SenderState.idle, .armed, .handedOver] →
        exec .resumeCmd s = .next (State.replied { s with camp.breakFlag := false } .ok [])))

/-! ### Invariants that every step keeps -/

/-- The state after a power-on reset meets every law of Safety.lean. -/
def Obligations.ResetIsSafe : Prop := State.reset.Safe

/-- Settings, memory size, share, grant count and credit stay in their ranges. No counter passes the limit at which it
saturates. -/
def Obligations.StepKeepsRangesAndSaturation : Prop :=
  (∀ s t : State, s.InRange → step s = .next t → t.InRange)
  ∧ (∀ s t : State, s.Saturated → step s = .next t → t.Saturated)

/-- The sender's tables keep to their sizes: at most 4 tiles in flight and never two entries for one tile, at most 8
demands and no tile twice, at most 16 fault-list entries and no tile twice, at most 128 credits, at most 16 internal
transfers. The receiver's tables keep to their sizes and hold no tile twice, the expired list among them. -/
def Obligations.StepKeepsTablesToSize : Prop :=
  (∀ s t : State, s.SenderFits → step s = .next t → t.SenderFits)
  ∧ (∀ s t : State, s.ReceiverFits → step s = .next t → t.ReceiverFits)

/-- The link's timers run in their own link states, and a link that is neither UP nor in COOLDOWN has no credits and no
reports waiting. -/
def Obligations.StepKeepsLinkConsistent : Prop :=
  ∀ s t : State, s.LinkConsistent → step s = .next t → t.LinkConsistent

/-- Every outstanding tag belongs to exactly one transfer, and the passage record names the tags in passage. -/
def Obligations.StepKeepsTagsAccounted : Prop :=
  ∀ s t : State, s.TagsAccounted → step s = .next t → t.TagsAccounted

/-- A part holds nothing in the engines of the role it does not have. R65: in INSYNC no scope COPY tile that is not
quarantined is dirty or in flight. -/
def Obligations.StepKeepsSyncLaw : Prop :=
  (∀ s t : State, s.RoleLaw → step s = .next t → t.RoleLaw)
  ∧ (∀ s t : State, s.RoleLaw → s.SyncLaw → step s = .next t → t.SyncLaw)

/-- R39, R40: a hold stands only in its own states, never both together, and nothing is held without one. -/
def Obligations.StepKeepsHoldLaw : Prop := ∀ s t : State, s.HoldLaw → step s = .next t → t.HoldLaw

/-- A pending bank stands only in SWEEP, SETTLE, STALLED and ENDING; the transmit queue keeps to 256 entries and the mark
backlog is empty while the queue has room (R114). R113, R114: how an entry joins and leaves. A mark that falls due joins at the
tail, or, with 256 entries, waits in the backlog, where a SYNC or UNSYNC mark takes the place of one that waits; as an entry
leaves, the places that are free are filled from the head of the backlog, in its order. -/
def Obligations.StepKeepsQueueLaw : Prop :=
  (∀ s t : State, s.PendingLaw → step s = .next t → t.PendingLaw ∧ (s.QueueLaw → t.QueueLaw))
  ∧ (∀ (q : TxQueue) (b : TxBody),
      (q.queue.length < 256 → q.backlog = [] → q.join b =
        { q with queue := q.queue ++ [⟨q.nextEntry, b, 0⟩], nextEntry := q.nextEntry + 1 })
      ∧ (256 ≤ q.queue.length ∨ q.backlog ≠ [] →
        ((∀ x, b ≠ .syncMark x) ∨ (∀ c ∈ q.backlog, ∀ x, c ≠ .syncMark x) →
          q.join b = { q with backlog := q.backlog ++ [b] })
        ∧ ∀ before x after y, b = .syncMark y → q.backlog = before ++ .syncMark x :: after →
          (∀ c ∈ before ++ after, ∀ z, c ≠ .syncMark z) → q.join b = { q with backlog := before ++ b :: after }))
  ∧ (∀ (q : TxQueue) (before : List TxEntry) (e : TxEntry) (after : List TxEntry),
      q.queue = before ++ e :: after → (∀ d ∈ before ++ after, d.id ≠ e.id) →
      let free := 256 - (before ++ after).length
      q.remove e.id =
        { q with
          queue := before ++ after
            ++ (q.backlog.take free).zipIdx.map fun p => ({ id := q.nextEntry + p.2, body := p.1, sent := 0 } : TxEntry)
          backlog := q.backlog.drop free
          nextEntry := q.nextEntry + (q.backlog.take free).length })

/-! ### Formats (chapter 12) -/

/-- A frame's bytes, as the part sends them, are read back by the part that receives them as that frame, every field at
every value the format admits. -/
def Obligations.FramesReadBack : Prop :=
  ∀ f : Frame, (∀ (seq : Seq) (body : OrderedBody), f = .ordered seq body → bodyFormed body = true) →
    frameCommand (frameBytes f) = frameArrival f

/-- A command message's bytes are read back as that command, every argument at every value. -/
def Obligations.MessagesReadBack : Prop :=
  ∀ (c : Instr) (bs : List Byte), wellFormed c = true → messageBytes c = some bs → messageCommand bs = c

/-! ### Arithmetic: digests, the tile map's counts, the first tile a walk finds -/

/-- R167: with u₀, u₁, … the 16-bit units of the tile in ascending address order, A is their sum mod 65535 and B the sum
of each unit times its distance from the end, mod 65535; the four rows of the rule's table follow. -/
def Obligations.DigestIsWeightedSum : Prop :=
  (∀ lines : List Line,
    let units := lines.flatMap lineUnits
    digestOf lines = BitVec.ofNat 32
      ((units.zipIdx.map fun p => (units.length - p.2) * p.1).sum % 65535 * 65536 + units.sum % 65535))
  ∧ digestOf (List.replicate 512 0) = 0
  ∧ digestOf (List.replicate 512 (BitVec.allOnes 512)) = 0
  ∧ digestOf (0xffff00020001#512 :: List.replicate 511 0) = 0xbffe0003#32
  ∧ digestOf (List.replicate 512 (BitVec.ofNat 512 ((2 ^ 512 - 1) / 65535))) = 0x28004000#32

/-- The live counts and the walks rest on these: a count is the number of set bits, setting or clearing one bit moves it by
one, and a walk stops at the lowest set bit at or above its position. R33: D and L are the numbers of dirty scope COPY and
scope LATE tiles, quarantined tiles aside. -/
def Obligations.TileMapCounts : Prop :=
  (∀ s : State,
    s.countD = ((List.range 131072).filter fun t => s.bit t && s.scopeIs .copy t && !s.quarantined t).length
    ∧ s.countL = ((List.range 131072).filter fun t => s.bit t && s.scopeIs .late t && !s.quarantined t).length)
  ∧ (∀ m : TileMap, countTiles m = ((List.range 131072).filter fun t => m.getLsbD t).length)
  ∧ (∀ (m : TileMap) (t : Nat), t < 131072 → m.getLsbD t = false → countTiles (setBit m t) = countTiles m + 1)
  ∧ (∀ (m : TileMap) (t : Nat), m.getLsbD t = true → countTiles (clearBit m t) + 1 = countTiles m)
  ∧ ∀ (m : TileMap) (start : Nat),
    (firstTile m start = none ↔ ∀ t, start ≤ t → m.getLsbD t = false)
    ∧ ∀ t, firstTile m start = some t ↔
      start ≤ t ∧ m.getLsbD t = true ∧ ∀ u, start ≤ u → u < t → m.getLsbD u = false

/-! ### The memory path (chapters 1 and 3) -/

/-- R2: a transfer on a free tag whose shape its kind forbids is terminated FAULT at once and its tag's lock record is
cleared; nothing else changes. -/
def Obligations.MalformedTransferIsFaulted : Prop :=
  ∀ (tag : Fin 16) (kind : XferKind) (addr : Addr) (mask : Mask) (data : Line) (s : State),
    s.mgmt.inReset = false → s.mem.tags[tag].outstanding = false →
    (kind ∈ [XferKind.readLine, .writeLine] ∧ addr.toNat % 64 ≠ 0
      ∨ kind ∈ [XferKind.read, .write, .lockRead, .lockWrite] ∧ (addr.toNat % 16 ≠ 0 ∨ ∀ i < 16, mask.getLsbD i = false)) →
    exec (.nearTransfer tag kind addr mask data) s = .next (s.answered tag .fault)

/-- R1, R11, R38, R41, R43 on the sender: a transfer on an outstanding tag is answered FAULT and not accepted; a
well-shaped one on a free tag is held, answered or forwarded by the first line of R38's table that matches. -/
def Obligations.SenderJudgesTransfers : Prop :=
  ∀ (tag : Fin 16) (kind : XferKind) (addr : Addr) (mask : Mask) (data : Line) (s : State),
    s.mgmt.inReset = false →
    (s.mem.tags[tag].outstanding = true →
      exec (.nearTransfer tag kind addr mask data) s =
        .next { s with mem.nearOut := s.mem.nearOut ++ [⟨tag, .fault⟩] })
    ∧ (s.mgmt.role = .sender → s.mem.tags[tag].outstanding = false → malformed kind addr mask = false →
      let k := s.kindAt tag kind addr
      let x : Transfer := ⟨tag, k, addr, mask, data⟩
      let lock := s.lockAfter tag kind addr
      exec (.nearTransfer tag kind addr mask data) s = .next (
        if s.inHeldRegion (tileOf addr) then s.held x lock
        else if s.mon.drainHold = true ∧ s.inScope (tileOf addr) = true then
          if k.isWrite then s.held x lock else s.forwarded x lock
        else if s.camp.state = .handedOver ∧ s.inScope (tileOf addr) = true ∧ k.isWrite = true then
          (s.answered tag .fault).latch .writeRefused
        else s.forwarded x lock))

/-- R42, R164, R165 on the receiver: in IDLE and LIVE every transfer is forwarded; in RECEIVING and INSYNC the first line
of R164's table that matches decides, and a read put off while the link is UP is entered in the demand table with a DEMAND
where there is room for both. The policy judged by is that of the lowest region number where the records of a plan share the
tile, the model's reading (notes/assumptions/54.md). -/
def Obligations.ReceiverJudgesTransfers : Prop :=
  ∀ (tag : Fin 16) (kind : XferKind) (addr : Addr) (mask : Mask) (data : Line) (s : State),
    s.mgmt.inReset = false → s.mgmt.role = .receiver → s.mem.tags[tag].outstanding = false →
    malformed kind addr mask = false →
    let k := s.kindAt tag kind addr
    let t := tileOf addr
    let policy := s.tables.policyAt t
    exec (.nearTransfer tag kind addr mask data) s = .next (
      if s.rx.state = .idle ∨ s.rx.state = .live then s.forwarded ⟨tag, k, addr, mask, data⟩ (s.lockAfter tag kind addr)
      else if k.isWrite = true ∧ policy ≠ .skip then (s.answered tag .fault).latch .writeRefused
      else if k.isWrite = false ∧ t ∈ s.rx.quarantine then s.answered tag .fault
      else if policy = .skip ∨ s.map.getLsbD t = true then
        s.forwarded ⟨tag, k, addr, mask, data⟩ (s.lockAfter tag kind addr)
      else if policy = .zero then s.answered tag (if s.rx.fill.passed t then .fault else .retry)
      else if t ∈ s.rx.expired then
        State.answered { s with rx.expired := s.rx.expired.filter fun u => u != t } tag .fault
      else if s.link.state ≠ .up then s.answered tag .fault
      else if (s.rx.demands.any fun d => d.tile == t) ∨ 8 ≤ s.rx.demands.length ∨ 64 ≤ s.link.reports.length then
        s.answered tag .retry
      else
        State.answered
          { s with
            rx.demands := s.rx.demands ++ [⟨t, some (s.cfg.demandWait * 1000)⟩]
            link.reports := s.link.reports ++ [.demand (BitVec.ofNat 32 t)] } tag .retry)

/-- R13, R14, R94, R96, R102, R103 on the sender: one grant is made by the pair holds and the credit, which the first grant of
a frame loads with the share in force; a grant to COPY issues the next read of the entry begun earliest that has one, else line
0 of a tile. The model's reading: the walks have moved to the tile they offer before the choice (R97,
notes/assumptions/8.md); a line that waits to be read again goes ahead of every first line read (notes/assumptions/10.md);
COPY's request is withdrawn when no tile can be begun at the grant, its discarded demands stay discarded, nothing is counted
for it, and the choice is then made as if COPY had not waited (notes/assumptions/9.md). -/
def Obligations.ArbiterChoosesByCredit : Prop :=
  ∀ s : State, s.mgmt.role = .sender →
    let s0 := s.testHead.moveWalks
    let credit := if s0.mem.frameGrants = 0 then s0.shareInForce else s0.mem.credit
    let asked := State.askAudit { s0 with eng.demandQueue := [] }
    let begins := s0.nextRead.isSome = true ∨ (∃ d ∈ s0.eng.demandQueue, s0.demandable d = true)
      ∨ asked.beginWalk.isSome = true
    ∃ t, exec .arbiterGrant s = .next t
      ∧ (s0.passWaits = true → s0.copyWaits = false ∨ s0.pairHold = true ∨ credit = 0 →
        s0.passGranted t credit)
      ∧ (s0.copyWaits = true → s0.pairHold = false → begins → s0.passWaits = false → s0.copyGranted t credit)
      ∧ (s0.copyWaits = true → s0.pairHold = false → begins → s0.passWaits = true → 0 < credit →
        s0.copyGranted t (credit - 1))
      ∧ (s0.copyWaits = true → s0.pairHold = false → ¬ begins → s0.passWaits = true → s0.passGranted t credit)
      ∧ (s0.copyWaits = true → s0.pairHold = false → ¬ begins → s0.passWaits = false → t = asked)
      ∧ (s0.passWaits = false → s0.copyWaits = false ∨ s0.pairHold = true → t = s0)

/-- R13, R14, R152, R159, R160, R173 on the receiver: one grant is made by the pair holds and the credit. APPLY goes ahead of
FILL, each issues its next transfer, one answered RETRY first, and a board transfer that waits goes ahead of both when the
credit is 0 or a pair hold stands. A chunk issues a line write, a MIRROR the write the sender made, a DIGEST a line read, and
the fill a line of zeros. The model's reading: a fill write answered RETRY goes ahead of the tile's lines not yet issued, in the
order of the answers (notes/assumptions/57.md), and so go several transfers of one frame (notes/assumptions/58.md). -/
def Obligations.ReceiverGrantsApplyThenFill : Prop :=
  ∀ s : State, s.mgmt.role = .receiver →
    let room := s.mem.internal < 16
    let applies := room ∧ ∃ a, s.rx.applying = some a ∧ a.next ≠ none
    let fills := room ∧ ∃ p, s.rx.fill = .running p ∧ p.next ≠ none
    let free := s.pairHold = false ∧ (s.mem.queue = [] ∨ 0 < s.creditNow)
    let left := if s.mem.queue = [] then s.creditNow else s.creditNow - 1
    (¬ free ∨ ¬ (applies ∨ fills) →
      (s.mem.queue = [] → exec .arbiterGrant s = .next s)
      ∧ (s.mem.queue ≠ [] → ∃ t, exec .arbiterGrant s = .next t ∧ s.passGranted t s.creditNow
        ∧ t = { s with mem := t.mem, mon.stall := .stopped }))
    ∧ (free → room → ∀ (a : Applying) (n : Nat) (again : Bool),
      s.rx.applying = some a → a.next = some (n, again) →
      let granted := fun (kind : XferKind) (addr : Addr) (mask : Mask) (data : Line) =>
        exec .arbiterGrant s = .next (State.countGrant
          (State.issue
            { s with rx.applying := some (if again then { a with waiting := a.waiting.drop 1 }
                else { a with issued := a.issued + 1 }) }
            (.apply n) kind addr mask data)
          left)
      (∀ (tile : BitVec 32) (chunk : Byte) (data : ChunkData), a.body = .tileChunk tile chunk data →
        granted .writeLine (lineAddr tile.toNat (chunk.toNat * 8 + n)) 0 (data.extractLsb' (512 * n) 512))
      ∧ (∀ addr mask data, a.body = .mirror addr false mask data → granted .write addr mask data)
      ∧ (∀ addr mask data, a.body = .mirror addr true mask data → granted .writeLine addr 0 data)
      ∧ (∀ tile value, a.body = .digest tile value → granted .readLine (lineAddr tile.toNat n) 0 0))
    ∧ (free → room → ∀ (p : FillPosition) (n : Nat) (again : Bool),
      (∀ a, s.rx.applying = some a → a.next = none) → s.rx.fill = .running p → p.next = some (n, again) →
      exec .arbiterGrant s = .next (State.countGrant
        (State.issue
          { s with rx.fill := .running (if again then { p with waiting := p.waiting.drop 1 }
              else { p with issued := p.issued + 1 }) }
          (.fill p.tile n) .writeLine (lineAddr p.tile n) 0 0)
        left))

/-- R31, R96, R100: with no transfer of the board waiting and every line of the tiles in flight issued, a grant takes the
demand queue's first tile that may be begun: its bit is cleared, it is in flight, its TILE entry joins the transmit queue and
line 0 is issued, all in the one grant; INSYNC is then left for MIRROR (R65). With no demand left that may be begun, the walk
or scan of the state begins a tile. R61, R97 in SWEEP and MIRROR: the sweep walk goes on from its position, passes the entries
that are invalid, LATE, ZERO or SKIP and the regions that offer no tile, raising REGION_END for each visit whose region's flag
is on, and begins the first tile it may offer; its position is then the tile after it, or the next entry after the region's
last tile. With no tile left it has passed the last entry. R98, R101, R169 in AUDIT: the dirty scan begins the first scope COPY
tile it may offer upward from the scan pointer, wrapping; with none, the audit walk begins an AUDIT entry for the next clean
tile of the COPY regions, in order of first occurrence, the bit staying clear and no entry joining the queue, and with none
left the walk is done. R99: the held-region walk of FREEZE goes upward in the region and starts again from its first tile; the
drain walk of DRAIN goes in bank order over COPY and LATE regions and starts again at entry 0. The model's reading: the sweep
and audit walks move at the grant, where REGION_END then falls and a visit ends with the beginning of its last tile
(notes/assumptions/8.md); demands that fail the test stay discarded, and in a grant that discards the last of them the audit
walk moves and the sweep walk does not (notes/assumptions/9.md); the held-region and drain walks look for their tile at the
grant, such a grant among them (notes/assumptions/50.md). -/
def Obligations.TilesBeginInOrder : Prop :=
  (∀ (s : State) (dropped : List Nat) (d : Nat) (rest : List Nat),
      s.mgmt.role = .sender → s.mem.queue = [] → s.pairHold = false → s.mem.internal < 16 → s.nextRead = none →
      s.mayBegin = true → s.eng.demandQueue = dropped ++ d :: rest → (∀ u ∈ dropped, s.demandable u = false) →
      s.demandable d = true →
      ∃ t, exec .arbiterGrant s = .next t
        ∧ (s.camp.state ≠ .insync → t =
          { s with
            mem := { s.mem with
              outstanding := s.mem.outstanding ++ [⟨s.mem.nextId, .copy d 0, .readLine, lineAddr d 0, 0, 0⟩]
              nextId := s.mem.nextId + 1
              frameGrants := (s.mem.frameGrants + 1) % 64
              credit := s.creditNow }
            map := clearBit s.map d
            eng.demandQueue := rest
            eng.inFlight := s.eng.inFlight ++ [InFlight.new d .copy]
            txq := s.txq.append (.tile d) })
        ∧ (s.camp.state = .insync → t.camp.state = .mirror ∧ t.camp.synced = false
          ∧ t.eng.inFlight = s.eng.inFlight ++ [InFlight.new d .copy]
          ∧ (s.tables.pending = none → t.map = clearBit s.map d)
          ∧ t.mgmt = s.mgmt.raise s.cfg.eventMask .insyncLeave
          ∧ s.changesOnly t [.mem, .map, .camp, .eng, .txq, .link, .mgmt, .tables]))
  ∧ ∀ s : State,
    s.mgmt.role = .sender → s.mem.queue = [] → s.pairHold = false → s.mem.internal < 16 → s.nextRead = none →
    s.mayBegin = true → (∀ u ∈ s.eng.demandQueue, s.demandable u = false) →
    let copied := fun (tile : Nat) (e : CopyEngine) =>
      { s with
        mem := s.lineIssued tile 0 s.creditNow
        map := clearBit s.map tile
        eng := { e with inFlight := s.eng.inFlight ++ [InFlight.new tile .copy], demandQueue := [] }
        txq := s.txq.append (.tile tile) }
    -- the sweep walk
    (s.camp.state = .sweep ∨ s.camp.state = .mirror →
      let at_ := s.eng.sweep
      (∀ (m n tile : Nat) (r : Region), at_.entry ≤ m → s.bankEntries[m]? = some n → s.tables.region n = some r →
        r.policy = .copy → (∀ k, at_.entry ≤ k → k < m → s.sweepBare k) →
        let start := r.base + if m = at_.entry then at_.offset else 0
        start ≤ tile → tile < r.base + r.count → s.offerable tile → (∀ u, start ≤ u → u < tile → ¬ s.offerable u) →
        s.eng.demandQueue = [] ∨ m = at_.entry ∧ tile = start →
        exec .arbiterGrant s = .next
          { copied tile { s.eng with
              sweep := if tile + 1 < r.base + r.count then ⟨m, tile + 1 - r.base⟩ else ⟨m + 1, 0⟩ } with
            mgmt := if tile + 1 < r.base + r.count ∨ r.regionEnd = false then s.visitsEnded m
              else (s.visitsEnded m).raise s.cfg.eventMask .regionEnd })
      ∧ (s.eng.demandQueue = [] → (∀ k, at_.entry ≤ k → s.sweepBare k) → exec .arbiterGrant s = .next s.sweptOut))
    -- the dirty scan
    ∧ (s.camp.state = .audit →
      let scanned := fun (u : Nat) => s.scopeIs .copy u = true ∧ s.offerable u
      let pointer := s.eng.scanPointer
      (∀ tile, scanned tile →
        pointer ≤ tile ∧ (∀ u, pointer ≤ u → u < tile → ¬ scanned u)
          ∨ (∀ u, pointer ≤ u → ¬ scanned u) ∧ (∀ u, u < tile → ¬ scanned u) →
        exec .arbiterGrant s = .next (copied tile { s.eng with scanPointer := (tile + 1) % 131072 }))
      -- the audit walk
      ∧ ((∀ u, ¬ scanned u) →
        let places := s.bankEntries.eraseDups
        let clean := fun (u : Nat) => u < 131072 ∧ s.bit u = false ∧ s.isInFlight u = false ∧ s.quarantined u = false
        let start := fun (m : Nat) (r : Region) => r.base + if m = s.aud.walk.entry then s.aud.walk.offset else 0
        let bare := fun (m : Nat) => ∀ n r, places[m]? = some n → s.tables.region n = some r → r.policy = .copy →
          ∀ u, start m r ≤ u → u < r.base + r.count → ¬ clean u
        (∀ (m n tile : Nat) (r : Region), s.aud.walkDone = false → s.aud.walk.entry ≤ m → places[m]? = some n →
          s.tables.region n = some r → r.policy = .copy → start m r ≤ tile → tile < r.base + r.count → clean tile →
          (∀ u, start m r ≤ u → u < tile → ¬ clean u) → (∀ k, s.aud.walk.entry ≤ k → k < m → bare k) →
          exec .arbiterGrant s = .next
            { s with
              mem := s.lineIssued tile 0 s.creditNow
              eng := { s.eng with inFlight := s.eng.inFlight ++ [InFlight.new tile .audit], demandQueue := [] }
              aud := { s.aud with
                walk := if tile + 1 < r.base + r.count then ⟨m, tile + 1 - r.base⟩ else ⟨m + 1, 0⟩
                walkDone := decide (r.base + r.count ≤ tile + 1) && !s.copyRegionFrom (m + 1) } })
        ∧ ((∀ m, s.aud.walk.entry ≤ m → bare m) → ∃ t, exec .arbiterGrant s = .next t
          ∧ t = { s with eng.demandQueue := [], aud := t.aud }
          ∧ t.aud = { s.aud with walk := t.aud.walk, walkDone := true })))
    -- the held-region walk
    ∧ (∀ (n tile : Nat) (r : Region), s.camp.state = .freeze → s.camp.copyBegun = true → s.mon.regionHold = some n →
      s.tables.region n = some r → r.base ≤ tile → tile < r.base + r.count → s.offerable tile →
      r.base + s.eng.freezeWalk ≤ tile ∧ (∀ u, r.base + s.eng.freezeWalk ≤ u → u < tile → ¬ s.offerable u)
        ∨ (∀ u, r.base + s.eng.freezeWalk ≤ u → u < r.base + r.count → ¬ s.offerable u)
          ∧ (∀ u, r.base ≤ u → u < tile → ¬ s.offerable u) →
      exec .arbiterGrant s = .next (copied tile { s.eng with freezeWalk := tile + 1 - r.base }))
    -- the drain walk
    ∧ (s.camp.state = .drain →
      let w : Walk := if s.eng.drainWalk.entry < s.bankEntries.length then s.eng.drainWalk else ⟨0, 0⟩
      let entry := fun (k : Nat) => (w.entry + k) % s.bankEntries.length
      let start := fun (k : Nat) (r : Region) => r.base + if k = 0 then w.offset else 0
      let visits := fun (k : Nat) (r : Region) => ∃ n, s.bankEntries[entry k]? = some n ∧ s.tables.region n = some r
        ∧ (r.policy = .copy ∨ r.policy = .late)
      ∀ (k tile : Nat) (r : Region), k ≤ s.bankEntries.length → visits k r → start k r ≤ tile →
        tile < r.base + r.count → s.offerable tile → (∀ u, start k r ≤ u → u < tile → ¬ s.offerable u) →
        (∀ j q, j < k → visits j q → ∀ u, start j q ≤ u → u < q.base + q.count → ¬ s.offerable u) →
        exec .arbiterGrant s = .next (copied tile { s.eng with drainWalk := ⟨entry k, tile + 1 - r.base⟩ }))

/-- R45 to R52: the tracking effect of the head of the pass-through queue at its grant, in every arbitration that grants it
at once: no internal request waits, a pair hold stands, or the credit is 0. A read, and a write to a tile that is not a scope
COPY or LATE tile, or in a state of the category None, has none. A write that dirties a clean, unquarantined scope COPY tile
in INSYNC takes the sender to MIRROR (R65); every other write there acts as in MIRROR. The model's reading: the walks move, and
REGION_END may be raised, before the choice, in a grant that goes to the board too (notes/assumptions/8.md). -/
def Obligations.WriteIsTrackedAtItsGrant : Prop :=
  ∀ (s : State) (x : Transfer) (rest : List Transfer),
    s.mgmt.role = .sender → s.mem.queue = x :: rest → s.keptBack = false →
    let s0 := s.testHead.moveWalks
    s0.copyWaits = false ∨ s0.pairHold = true ∨ s0.creditNow = 0 →
    let tile := tileOf x.addr
    let dirtied := { s0.conv with
      w := if s0.bit tile = false ∧ s0.scopeIs .copy tile = true then min 1048575 (s0.conv.w + 1) else s0.conv.w }
    let redirtied := { s0.eng with
      inFlight := s0.eng.inFlight.map fun e => if e.tile = tile then { e with redirtied := true } else e }
    let leaves := s0.camp.state = .insync ∧ s0.scopeIs .copy tile = true ∧ s0.bit tile = false ∧ s0.quarantined tile = false
    ∃ t, exec .arbiterGrant s = .next t ∧ s0.passGranted t s0.creditNow
      ∧ (x.kind.isWrite = false ∨ s0.tracked tile = false ∨ s0.camp.state ∈ [SenderState.idle, .armed, .handedOver] →
        t = { s0 with mem := t.mem, mon.stall := .stopped })
      ∧ (x.kind.isWrite = true → s0.tracked tile = true →
        (s0.camp.state ∈ [SenderState.delay, .plan, .sweep, .settle, .stalled, .ending] →
          t = { s0 with
            mem := t.mem, mon.stall := .stopped, map := setBit s0.map tile, conv := dirtied, eng := redirtied })
        ∧ (s0.camp.state ∈ [SenderState.mirror, .audit, .insync, .freeze, .drain] →
          (s0.isInFlight tile = true → ¬ leaves →
            t = { s0 with
              mem := t.mem, mon.stall := .stopped, map := setBit s0.map tile, conv := dirtied, eng := redirtied })
          ∧ (s0.isInFlight tile = false → s0.quarantined tile = true →
            t = { s0 with mem := t.mem, mon.stall := .stopped, map := setBit s0.map tile, conv := dirtied })
          ∧ (s0.isInFlight tile = false → s0.quarantined tile = false → s0.bit tile = true →
            t = { s0 with mem := t.mem, mon.stall := .stopped })
          ∧ (s0.isInFlight tile = false → s0.quarantined tile = false → s0.bit tile = false →
            (256 ≤ s0.txq.queue.length → ¬ leaves → t = State.latch
              { s0 with
                mem := t.mem
                mon := { s0.mon with stall := .stopped, degrade := min 65535 (s0.mon.degrade + 1) }
                map := setBit s0.map tile
                conv := dirtied } .mirrorDegraded)
            ∧ (s0.txq.queue.length < 256 → t = { s0 with
              mem := t.mem
              mon.stall := .stopped
              txq := { s0.txq with
                nextEntry := s0.txq.nextEntry + 1
                queue := s0.txq.queue ++ [⟨s0.txq.nextEntry,
                  .mirror x.tag false x.addr x.kind.isLine (if x.kind.isLine then 0 else x.mask)
                    (mirrorData x.kind.isLine x.mask x.data), 0⟩] } })))
        ∧ (leaves →
          (s0.isInFlight tile = true → t.camp.state = .mirror ∧ t.camp.synced = false ∧ t.bit tile = true
            ∧ t.eng.inFlight = redirtied.inFlight)
          ∧ (s0.isInFlight tile = false → 256 ≤ s0.txq.queue.length →
            t.camp.state = .mirror ∧ t.camp.synced = false ∧ t.bit tile = true ∧ t.latched .mirrorDegraded = true
              ∧ t.mon.degrade = min 65535 (s0.mon.degrade + 1))))

/-- R4, R5, R6, R12, R44: the termination of a PASS transfer with no PENDING mirror is relayed unchanged on its tag,
which becomes free; its passage entry goes, and a LOCK_READ that did not end DONE empties its tag's lock record. A
termination that no requester holds any longer is discarded. R50: the termination of a mirrored write acts on its
PENDING entry first. DONE makes it READY; FAULT or RETRY takes it out of the queue and sets the tile dirty, redirtied
if in flight. The termination is relayed as for any PASS transfer, with the same effect on the passage record, the far port
and the lock record. -/
def Obligations.TerminationsOfBoardTransfers : Prop :=
  (∀ (id : Nat) (term : Term) (s : State),
      ((∀ x ∈ s.mem.outstanding, x.id ≠ id) → exec (.farTermination id term) s = .next s)
      ∧ ∀ x, (s.mem.outstanding.find? fun x => x.id == id) = some x →
        (x.owner = .abandoned → exec (.farTermination id term) s =
          .next { s with mem.outstanding := s.mem.outstanding.filter fun y => y.id != id })
        ∧ ∀ tag, x.owner = .pass tag → (∀ e ∈ s.txq.queue, e.pendingFor tag = false) →
          exec (.farTermination id term) s = .next
            { s with
              mem := { s.mem with
                outstanding := s.mem.outstanding.filter fun y => y.id != id
                tags := s.mem.tags.set tag
                  ⟨false, if x.kind = .lockRead ∧ (term = .fault ∨ term = .retry) then none else s.mem.tags[tag].lock⟩
                nearOut := s.mem.nearOut ++ [⟨tag, term⟩] }
              mon.passage := s.mon.passage.filter fun p => p.tag != tag })
  ∧ (∀ (id : Nat) (term : Term) (s : State) (x : FarTransfer) (tag : Fin 16) (e : TxEntry),
      s.QueueLaw → (s.mem.outstanding.find? fun x => x.id == id) = some x → x.owner = .pass tag →
      (s.txq.queue.find? fun e => e.pendingFor tag) = some e →
      let tile := tileOf x.addr
      ∃ t, exec (.farTermination id term) s = .next t
        ∧ t.mem = { s.mem with
            outstanding := s.mem.outstanding.filter fun y => y.id != id
            tags := s.mem.tags.set tag
              ⟨false, if x.kind = .lockRead ∧ (term = .fault ∨ term = .retry) then none else s.mem.tags[tag].lock⟩
            nearOut := s.mem.nearOut ++ [⟨tag, term⟩] }
        ∧ t.mon = { s.mon with passage := s.mon.passage.filter fun p => p.tag != tag }
        ∧ (∀ data, term = .done data →
          t = { s with
            mem := t.mem
            mon := t.mon
            txq.queue := s.txq.queue.map fun q => if q.id = e.id then { q with body := q.body.makeReady } else q })
        ∧ (term = .fault ∨ term = .retry →
          t.bit tile = (decide (tile < 131072))
          ∧ (∀ q ∈ t.txq.queue, q.id ≠ e.id)
          ∧ (∀ q ∈ s.txq.queue, q.id ≠ e.id → q ∈ t.txq.queue)
          ∧ t.eng.inFlight = (s.eng.inFlight.map fun f => if f.tile = tile then { f with redirtied := true } else f)
          ∧ (s.camp.state ≠ .insync → t.camp = s.camp ∧ t.tables = s.tables ∧ t.map = setBit s.map tile
            ∧ t.eng = { s.eng with inFlight := t.eng.inFlight })
          ∧ s.changesOnly t [.mem, .mon, .tables, .map, .camp, .conv, .eng, .txq, .link, .mgmt]))

/-- R102, R103, R104, R107, R108, R109, R170: how a line read of a tile in flight ends. DONE fills the line's place and
sets its retry count to 0, and the last DONE of an AUDIT entry queues its DIGEST; RETRY makes the line wait to be read
again; FAULT, or the 32nd RETRY in a row, ends the tile read: the tile's TILE entry is withdrawn, or its unsent frames become
one ABANDON_TILE in its place, the tile is dirty again and out of flight, its outstanding reads are abandoned, FAR_FAULT is
latched, and the tile is given a strike, the second of which queues a QUARANTINE mark. In STALLED, where no read runs, that
mark too is the model's choice (notes/assumptions/46.md). -/
def Obligations.LineReadsEnd : Prop :=
  ∀ (id tile line : Nat) (term : Term) (s : State) (x : FarTransfer) (e : InFlight),
    (s.mem.outstanding.find? fun x => x.id == id) = some x → x.owner = .copy tile line →
    (s.eng.inFlight.find? fun e => e.tile == tile) = some e →
    let s1 := { s with mem.outstanding := s.mem.outstanding.filter fun y => y.id != id }
    let with_ := fun (f : InFlight) => s.eng.inFlight.map fun g => if g.tile = tile then f else g
    (∀ data, term = .done data → e.kind = .copy ∨ e.done + 1 ≠ 512 →
      exec (.farTermination id term) s = .next
        { s1 with
          eng.inFlight := with_
            { e with done := e.done + 1, retries := setRetry e.retries line 0, buffer := e.buffer ++ [(line, data)] } })
    ∧ (∀ data, term = .done data → e.kind = .audit → e.done + 1 = 512 →
      exec (.farTermination id term) s = .next
        { s1 with
          eng.inFlight := with_
            { e with done := 512, retries := setRetry e.retries line 0, buffer := [] }
          txq := s.txq.join (.digest tile (digestOf (bufferLines (e.buffer ++ [(line, data)])))) })
    ∧ (term = .retry → retryCount e.retries line + 1 ≠ 32 →
      exec (.farTermination id term) s = .next
        { s1 with
          eng.inFlight := s.eng.inFlight.map fun g =>
            if g.tile = tile then
              { g with
                retries := setRetry g.retries line (retryCount e.retries line + 1)
                waiting := g.waiting ++ [line] }
            else g })
    ∧ (term = .fault ∨ term = .retry ∧ retryCount e.retries line + 1 = 32 →
      ∃ t, exec (.farTermination id term) s = .next t ∧ t.latched .farFault = true
        ∧ t.isInFlight tile = false
        ∧ (∀ y ∈ t.mem.outstanding, ∀ l, y.owner ≠ .copy tile l)
        ∧ (t.mem.outstanding.map fun y => y.id) = (s1.mem.outstanding.map fun y => y.id)
        ∧ ((∀ f ∈ s.eng.faults, f.tile ≠ tile) → s.eng.faults.length < 16 →
          t.eng.faults = s.eng.faults ++ [⟨tile, 1, false⟩] ∧ t.bit tile = (s.bit tile || decide (tile < 131072)))
        ∧ ((s.eng.faults.find? fun f => f.tile == tile) = some ⟨tile, 1, false⟩ →
          t.eng.faults = (s.eng.faults.map fun f => if f.tile = tile then ⟨tile, 2, true⟩ else f)
            ∧ t.quarantined tile = true ∧ t.bit tile = (s.bit tile || decide (tile < 131072)))
        ∧ ((∀ f ∈ s.eng.faults, f.tile ≠ tile) → 16 ≤ s.eng.faults.length →
          t.camp.state = .idle ∧ t.map = 0 ∧ t.eng.faults = s.eng.faults ∧ t.eng.inFlight = []
            ∧ (s.camp.state ≠ .ending → t.camp.exit.reason = .faultListFull)
            ∧ (s.camp.state = .ending → t.camp.exit.reason = s.camp.endReason))
        -- the TILE entry cut back, and the QUARANTINE mark
        ∧ ∀ cut : TxQueue,
          (∀ q ∈ s.txq.queue, q.body ≠ .tile tile) ∧ cut = s.txq
            ∨ (∃ before q after, s.txq.queue = before ++ q :: after ∧ q.body = .tile tile ∧ s.QueueLaw
              ∧ (∀ p ∈ before, p.body ≠ .tile tile)
              ∧ (q.sent = 0 → cut = TxQueue.refill { s.txq with queue := before ++ after })
              ∧ (0 < q.sent →
                cut = { s.txq with queue := before ++ { q with body := .tileCut tile q.sent } :: after })) →
          s.camp.state ≠ .insync ∨ s.scopeIs .copy tile = false ∨ s.bit tile = true ∨ s.quarantined tile = true →
          ((∀ f ∈ s.eng.faults, f.tile ≠ tile) → s.eng.faults.length < 16 → t.txq = cut)
          ∧ ((s.eng.faults.find? fun f => f.tile == tile) = some ⟨tile, 1, false⟩ → t.txq = cut.join (.quarantine tile))
          ∧ ((s.eng.faults.find? fun f => f.tile == tile) = some ⟨tile, 2, true⟩ →
            t.txq = cut ∧ t.eng.faults = s.eng.faults))

/-- R158, R159, R160, R173: how a transfer of the frame in application ends. DONE counts it, and RETRY makes it the frame's
next transfer. A chunk: the DONE of the last write of chunk 63 in an unbroken sequence sets the tile's valid bit and ends the
assembly, and the tile leaves the demand table and the expired list; FAULT, or the 32nd RETRY in a row, clears the bit, breaks
the assembly, latches FAR_FAULT and makes the frame's report FAULTED. A mirror's DONE applies the frame and leaves the bit, its
FAULT clears the bit, latches FAR_FAULT and hands FAULTED. A digest's reads fill its buffer; after a FAULT no further read is
issued, and once the last outstanding one has ended DIGEST_RESULT is handed, MATCH only where every read was DONE and the
digests agree. A frame that met a link loss hands nothing, APPLIED included (R155), and counts like any frame applied (R163);
that it hands nothing with the link UP again too is the model's reading (notes/assumptions/37.md). R152: how a write of the
zero fill ends. The 512th DONE sets the tile's valid bit and the fill goes on behind it, in its ZERO region or a later one, at
the next tile that is not valid; FAULT, or the 32nd RETRY in a row, latches FAR_FAULT and leaves the tile invalid, a failed
fill. With no such tile left the fill is complete: a SYNC_MARK that waited takes the receiver to INSYNC, and a HANDOVER that
waited is applied (R162). That the other writes of a failed fill are abandoned is the model's reading
(notes/assumptions/38.md), and that a RETRY after a digest read has failed ends its read (notes/assumptions/39.md). Those
answered RETRY wait in the order of the answers, also the model's reading, for the fill (notes/assumptions/57.md) and for a
frame (notes/assumptions/58.md). -/
def Obligations.ReceiverWritesEnd : Prop :=
  (∀ (id n : Nat) (s : State) (x : FarTransfer) (a : Applying) (tile : BitVec 32) (chunk : Byte) (data : ChunkData),
      (s.mem.outstanding.find? fun x => x.id == id) = some x → x.owner = .apply n →
      s.rx.applying = some a → a.body = .tileChunk tile chunk data →
      let s1 := { s with mem.outstanding := s.mem.outstanding.filter fun y => y.id != id }
      (∀ d, a.done + 1 < a.total → exec (.farTermination id (.done d)) s =
        .next { s1 with rx.applying := some { a with done := a.done + 1, retries := setRetry a.retries n 0 } })
      ∧ (∀ d m, a.done + 1 = a.total → chunk = 63 → a.failed = false → s.rx.assembly = some m → m.tile = tile.toNat →
        m.next = 64 → m.broken = false →
        ∃ t, exec (.farTermination id (.done d)) s = .next t
          ∧ t.map = setBit s.map tile.toNat ∧ t.rx.assembly = none
          ∧ t.rx.demands = (s.rx.demands.filter fun e => e.tile != tile.toNat)
          ∧ t.rx.expired = (s.rx.expired.filter fun u => u != tile.toNat)
          ∧ t.rx.quarantine = s.rx.quarantine ∧ t.rx.state = s.rx.state
          ∧ s.changesOnly t [.mem, .map, .rx, .link])
      ∧ (∀ d m, a.done + 1 = a.total → chunk = 63 → s.rx.assembly = some m → m.broken = true ∨ a.failed = true →
        ∃ t, exec (.farTermination id (.done d)) s = .next t ∧ t.map = s.map)
      ∧ (∀ term, term = .fault ∨ term = .retry ∧ retryCount a.retries n + 1 = 32 →
        let failed := fun (u : Option Applying) => State.latch
          { s1 with
            map := clearBit s.map tile.toNat
            rx := { s.rx with
              assembly := s.rx.assembly.map fun m => { m with broken := true }
              applying := u } } .farFault
        (a.done + 1 < a.total → exec (.farTermination id term) s = .next (failed
          (some { a with done := a.done + 1, failed := true, report := some (.faulted a.seq tile) })))
        ∧ (a.done + 1 = a.total → s.link.state.isOpen = true → s.link.reports.length + 2 ≤ 64 →
          exec (.farTermination id term) s = .next
            (if a.silent then { failed none with rx.appliedCount := s.rx.appliedCount + 1 }
            else (failed none).appliedNow a.seq (some (.faulted a.seq tile)))))
      ∧ (retryCount a.retries n + 1 ≠ 32 → exec (.farTermination id .retry) s = .next
          { s1 with
            rx.applying := some
              { a with
                retries := setRetry a.retries n (retryCount a.retries n + 1)
                waiting := a.waiting ++ [n] } }))
  -- a mirror and a digest
  ∧ (∀ (id n : Nat) (s : State) (x : FarTransfer) (a : Applying),
      (s.mem.outstanding.find? fun x => x.id == id) = some x → x.owner = .apply n → s.rx.applying = some a →
      s.link.state.isOpen = true → s.link.reports.length + 2 ≤ 64 →
      let s1 := { s with mem.outstanding := s.mem.outstanding.filter fun y => y.id != id }
      let goesOn := fun (b : Applying) => { s1 with rx.applying := some b }
      let applied := fun (u : State) (r : Option Report) =>
        if a.silent then { u with rx.applying := none, rx.appliedCount := s.rx.appliedCount + 1 } else u.appliedNow a.seq r
      let fails := fun (term : Term) => term = .fault ∨ term = .retry ∧ retryCount a.retries n + 1 = 32
      (∀ addr line mask data, a.body = .mirror addr line mask data → a.total = a.done + 1 → a.report = none →
        (∀ d, exec (.farTermination id (.done d)) s = .next (applied s1 none))
        ∧ (∀ term, fails term → exec (.farTermination id term) s = .next (applied
          (State.latch { s1 with map := clearBit s.map (tileOf addr) } .farFault)
          (some (.faulted a.seq (BitVec.ofNat 32 (tileOf addr))))))
        ∧ (retryCount a.retries n + 1 ≠ 32 → exec (.farTermination id .retry) s = .next (goesOn
          { a with
            retries := setRetry a.retries n (retryCount a.retries n + 1)
            waiting := a.waiting ++ [n] })))
      ∧ ∀ tile value, a.body = .digest tile value →
        (∀ d,
          let buffer := a.buffer ++ [(n, d)]
          (a.done + 1 < a.total → exec (.farTermination id (.done d)) s = .next (goesOn
            { a with done := a.done + 1, retries := setRetry a.retries n 0, buffer := buffer }))
          ∧ (a.total ≤ a.done + 1 → exec (.farTermination id (.done d)) s = .next (applied s1 (some (.digestResult a.seq tile
            (if a.failed = false ∧ digestOf (bufferLines buffer) = value then 0 else 1))))))
        ∧ (∀ term, fails term →
          let total := if a.failed then a.total else a.issued - a.waiting.length
          (a.done + 1 < total → exec (.farTermination id term) s = .next (goesOn
            { a with done := a.done + 1, failed := true, total := total, waiting := [] }))
          ∧ (total ≤ a.done + 1 → exec (.farTermination id term) s = .next
            (applied s1 (some (.digestResult a.seq tile 1)))))
        ∧ (retryCount a.retries n + 1 ≠ 32 →
          (a.failed = false → exec (.farTermination id .retry) s = .next (goesOn
            { a with
              retries := setRetry a.retries n (retryCount a.retries n + 1)
              waiting := a.waiting ++ [n] }))
          ∧ (a.failed = true → a.done + 1 < a.total →
            exec (.farTermination id .retry) s = .next (goesOn { a with done := a.done + 1 }))
          ∧ (a.failed = true → a.total ≤ a.done + 1 →
            exec (.farTermination id .retry) s = .next (applied s1 (some (.digestResult a.seq tile 1))))))
  ∧ (∀ (id line : Nat) (term : Term) (s : State) (x : FarTransfer) (p : FillPosition),
      (s.mem.outstanding.find? fun x => x.id == id) = some x → s.rx.fill = .running p → x.owner = .fill p.tile line →
      let s1 := { s with mem.outstanding := s.mem.outstanding.filter fun y => y.id != id }
      (∀ d, term = .done d → p.done + 1 ≠ 512 → exec (.farTermination id term) s = .next
        { s1 with rx.fill := .running { p with done := p.done + 1, retries := setRetry p.retries line 0 } })
      ∧ (term = .retry → retryCount p.retries line + 1 ≠ 32 → exec (.farTermination id term) s = .next
        { s1 with
          rx.fill := .running
            { p with
              retries := setRetry p.retries line (retryCount p.retries line + 1)
              waiting := p.waiting ++ [line] } })
      ∧ (let fills := (∃ d, term = .done d) ∧ p.done + 1 = 512
        let fails := term = .fault ∨ term = .retry ∧ retryCount p.retries line + 1 = 32
        let map := match term with
          | .done _ => setBit s.map p.tile
          | .fault | .retry => s.map
        let start := fun (k base : Nat) => if k = 0 then p.tile + 1 else base
        let full := fun (k : Nat) => ∀ base count, p.runs[k]? = some (base, count) →
          ∀ u, start k base ≤ u → u < base + count → u < 131072 → map.getLsbD u = true
        fills ∨ fails → ∃ t, exec (.farTermination id term) s = .next t
          ∧ t.map = map
          ∧ (fills → t.mem = s1.mem ∧ (s.rx.applying = none →
            t.rx.demands = (s.rx.demands.filter fun e => e.tile != p.tile)
              ∧ t.rx.expired = (s.rx.expired.filter fun u => u != p.tile)))
          ∧ (fails → t.latched .farFault = true ∧ ∀ y ∈ t.mem.outstanding, ∀ l, y.owner ≠ .fill p.tile l)
          -- a further tile
          ∧ (∀ k base count u, p.runs[k]? = some (base, count) → start k base ≤ u → u < base + count → u < 131072 →
            map.getLsbD u = false → (∀ v, start k base ≤ v → v < u → map.getLsbD v = true) → (∀ j, j < k → full j) →
            t.rx = { s.rx with
              fill := .running
                { runs := p.runs.drop k, offset := u - base, issued := 0, done := 0, retries := [], waiting := [] }
              demands := t.rx.demands
              expired := t.rx.expired }
            ∧ (fails → t.rx.demands = s.rx.demands ∧ t.rx.expired = s.rx.expired)
            ∧ s.changesOnly t [.mem, .map, .rx, .mgmt])
          -- the fill is complete
          ∧ ((∀ k, full k) → ∀ a, s.rx.applying = some a → a.body = .handover → a.total ≤ a.done →
            s.rx.state = .receiving ∨ s.rx.state = .insync → a.silent = true ∨ s.link.reports.length + 2 ≤ 64 →
            t.rx.state = .live ∧ t.rx.fill = .complete ∧ t.rx.applying = none ∧ t.rx.demands = [] ∧ t.rx.expired = [])
          ∧ ((∀ k, full k) → s.rx.applying = none →
            (s.rx.syncPending = false → t.rx = { s.rx with
                fill := .complete
                demands := t.rx.demands
                expired := t.rx.expired }
              ∧ (fails → t.rx.demands = s.rx.demands ∧ t.rx.expired = s.rx.expired)
              ∧ s.changesOnly t [.mem, .map, .rx, .mgmt])
            ∧ (s.rx.syncPending = true → s.rx.state = .receiving → t.rx.state = .insync ∧ t.rx.fill = .complete
              ∧ t.rx.syncPending = false ∧ s.changesOnly t [.mem, .map, .rx, .link, .mgmt]))))

/-- R12, R52, R180: the timers of the memory path and of the EVT line. The expiry of a pair hold that runs empties the lock
record and latches LOCK_BROKEN; a head that STALL keeps back starts the stall timer and is not granted, and the stall limit
lets it go; a pulse is followed by a guard, and a guard by a due pulse or by the low line. R180: the raising of an event. Its
count in the tally rises by 1, up to 255, whether or not the mask names it; an event that the mask names begins a pulse on the
low line, merges into a pulse in progress, and makes a pulse due in a guard. -/
def Obligations.TimersOfTheMemoryPathAndEvt : Prop :=
  (∀ (m : Management) (mask : BitVec 6) (e : Event), ∃ tally : Vector Nat 6,
    (∀ f : Event, tally[f.bit] = if f = e then min 255 (m.tally[f.bit] + 1) else m.tally[f.bit])
    ∧ (mask.getLsbD e.bit = false → m.raise mask e = { m with tally := tally })
    ∧ (mask.getLsbD e.bit = true → m.raise mask e = { m with
        tally := tally
        evt := match m.evt with
          | .low | .pulsing => .pulsing
          | .guarding _ => .guarding true }))
  ∧ ([Event.campaignStart, .passEnd, .regionEnd, .insyncEnter, .insyncLeave, .campaignEnd].map Event.bit = [0, 1, 2, 3, 4, 5])
  ∧ ∀ s : State,
    (∀ tag : Fin 16, exec (.pairHoldExpiry tag) s = .next (if s.mem.tags[tag].lock = none then s else
      State.latch { s with mem.tags := s.mem.tags.set tag ⟨s.mem.tags[tag].outstanding, none⟩ } .lockBroken))
    ∧ (∀ x rest, s.mem.queue = x :: rest → s.cfg.overflow = .stall → s.cfg.stallLimit ≠ 0 → s.mon.stall ≠ .expired →
      s.mgmt.role = .sender → s.camp.state ∈ [SenderState.mirror, .audit, .insync, .freeze, .drain] →
      x.kind.isWrite = true → s.tracked (tileOf x.addr) = true → s.bit (tileOf x.addr) = false →
      s.isInFlight (tileOf x.addr) = false → s.quarantined (tileOf x.addr) = false → 256 ≤ s.txq.queue.length →
      s.nextRead = none → exec .arbiterGrant s = .next { s with mon.stall := .running })
    ∧ exec .stallLimitExpiry s = .next (if s.mon.stall = .running then { s with mon.stall := .expired } else s)
    ∧ exec .evtPulseEnd s = .next { s with mgmt.evt := match s.mgmt.evt with
        | .pulsing => .guarding false
        | .low => .low
        | .guarding due => .guarding due }
    ∧ exec .evtGuardEnd s = .next { s with mgmt.evt := match s.mgmt.evt with
        | .guarding true => .pulsing
        | .guarding false => .low
        | .low => .low
        | .pulsing => .pulsing }

/-! ### The management line (chapters 2 and 11) -/

/-- The IDLE of either role, in which SET_SIZE and SET_IDENTITY are taken (R176). That the reply of OK echoes the argument is
the model's reading (notes/assumptions/6.md). -/
def Obligations.IdentityCommands : Prop :=
  ∀ s : State, s.mgmt.inReset = false →
    let idle := s.mgmt.role = .sender ∧ s.camp.state = .idle ∨ s.mgmt.role = .receiver ∧ s.rx.state = .idle
    let announced := fun (changed : Bool) => if changed ∧ (s.link.state = .up ∨ s.link.state = .cooldown) then
      controlAdd .hello s.link.control else s.link.control
    (∀ size : BitVec 32,
      (¬ idle → exec (.setSize size) s = .next (s.replied .busy []))
      ∧ (idle → ∃ n, n = max 1 (min 131072 size.toNat) ∧ exec (.setSize size) s = .next
        { s with
          mgmt := { s.mgmt with
            size := n
            reply := ⟨if n = size.toNat then .ok else .clamped, leBytes 4 n⟩ }
          link.control := announced (s.mgmt.size != n) }))
    ∧ ∀ identity : BitVec 64,
      (¬ idle → exec (.setIdentity identity) s = .next (s.replied .busy []))
      ∧ (idle → exec (.setIdentity identity) s = .next
        { s with
          mgmt := { s.mgmt with identity := identity, reply := ⟨.ok, leBytes 8 identity.toNat⟩ }
          link.control := announced (s.mgmt.identity != identity) })

/-- R149, R176, R35: SET_ROLE. It is BUSY on a sender outside IDLE and on a receiver in RECEIVING and INSYNC, RANGE for a
name that is neither role. Taken, it leaves the part in the IDLE of the named role; a change clears the tile map and the
engines of the role left, abandons every internal transfer and raises HELLO, and a receiver that stays one holds campaign 0
and keeps its valid bits. What exactly a change empties (notes/assumptions/31.md) and the echo in the reply
(notes/assumptions/6.md) are the model's reading. -/
def Obligations.SetRole : Prop :=
  ∀ (role : Byte) (s : State), s.mgmt.inReset = false →
    (s.mgmt.role = .sender ∧ s.camp.state ≠ .idle
        ∨ s.mgmt.role = .receiver ∧ (s.rx.state = .receiving ∨ s.rx.state = .insync) →
      exec (.setRole role) s = .next (s.replied .busy []))
    ∧ (s.mgmt.role = .sender ∧ s.camp.state = .idle
        ∨ s.mgmt.role = .receiver ∧ (s.rx.state = .idle ∨ s.rx.state = .live) →
      (role ≠ 1 → role ≠ 2 → exec (.setRole role) s = .next (s.replied .range []))
      ∧ (s.mgmt.role = .sender → role = 1 → exec (.setRole role) s = .next (s.replied .ok [1]))
      ∧ (s.mgmt.role = .receiver → role = 2 → ∃ t, exec (.setRole role) s = .next t
        ∧ t.mgmt.reply = ⟨.ok, [2]⟩ ∧ t.mgmt.role = .receiver ∧ t.rx.state = .idle ∧ t.rx.held = 0 ∧ t.rx.buffer = []
        ∧ t.rx.applying = none ∧ t.rx.planRecords = [] ∧ t.rx.assembly = none ∧ t.rx.fill = .stopped
        ∧ t.rx.quarantine = [] ∧ t.rx.demands = [] ∧ t.rx.expired = [] ∧ t.rx.appliedCount = 0
        ∧ t.map = s.map ∧ t.tables = s.tables
        ∧ (∀ x ∈ t.mem.outstanding, ∀ n l, x.owner ≠ .apply n ∧ x.owner ≠ .fill n l)
        ∧ s.changesOnly t [.mem, .rx, .link, .mgmt])
      ∧ (s.mgmt.role = .sender ∧ role = 2 ∨ s.mgmt.role = .receiver ∧ role = 1 →
        ∃ t, exec (.setRole role) s = .next t ∧ t.mgmt.reply = ⟨.ok, [role]⟩
          ∧ t.mgmt.role = (if role = 1 then .sender else .receiver)
          ∧ t.map = 0 ∧ t.camp.state = .idle ∧ t.rx.state = .idle ∧ t.rx.held = 0 ∧ t.camp.number = s.camp.number
          ∧ t.camp.exit = s.camp.exit ∧ t.eng = CopyEngine.reset ∧ t.aud = Audit.reset ∧ t.txq.queue = []
          ∧ t.rx.buffer = [] ∧ t.rx.applying = none ∧ t.rx.fill = .stopped
          ∧ t.conv = Convergence.reset s.cfg.share
          ∧ (∀ x ∈ t.mem.outstanding, x.owner = .abandoned ∨ ∃ tag, x.owner = .pass tag)
          ∧ (t.mem.outstanding.map fun x => x.id) = (s.mem.outstanding.map fun x => x.id)
          ∧ (s.link.state = .up ∨ s.link.state = .cooldown → Control.hello ∈ t.link.control ∧ ∀ c ∈ t.link.control, c = .hello)
          ∧ t.cfg = s.cfg ∧ t.pending = s.pending))

/-- R22, R23: LOAD_REGION's checks in their order, and what an entry that passes them changes. -/
def Obligations.LoadRegion : Prop :=
  ∀ (region : Byte) (base count : BitVec 32) (policy regionEnd : Byte) (s : State), s.mgmt.inReset = false →
    let running := s.mgmt.role = .sender ∧ s.camp.state ≠ .idle ∧ s.camp.state ≠ .armed
    let sharesATile := ∃ (m : Fin 32) (q : Region) (tile : Nat), m.val ≠ region.toNat ∧ s.tables.regions[m] = some q
      ∧ q.base ≤ tile ∧ tile < q.base + q.count ∧ base.toNat ≤ tile ∧ tile < base.toNat + count.toNat
    ∃ t, exec (.loadRegion region base count policy regionEnd) s = .next t ∧
    (s.mgmt.role = .receiver ∧ (s.rx.state = .receiving ∨ s.rx.state = .insync) → t = s.replied .busy [])
    ∧ (¬ (s.mgmt.role = .receiver ∧ (s.rx.state = .receiving ∨ s.rx.state = .insync)) →
      (31 < region.toNat ∨ 3 < policy.toNat ∨ 1 < regionEnd.toNat → t = s.replied .range [])
      ∧ (region.toNat ≤ 31 → policy.toNat ≤ 3 → regionEnd.toNat ≤ 1 →
        (count = 0 ∨ s.mgmt.size ≤ base.toNat + count.toNat - 1 → t = s.replied .range [])
        ∧ (count ≠ 0 → base.toNat + count.toNat - 1 < s.mgmt.size →
          (running → region.toNat ∈ s.tables.lockedSet → t = s.replied .locked [])
          ∧ (¬ (running ∧ region.toNat ∈ s.tables.lockedSet) → sharesATile → t = s.replied .overlap [])
          ∧ (¬ (running ∧ region.toNat ∈ s.tables.lockedSet) → ¬ sharesATile →
            ∃ r : Region, r.base = base.toNat ∧ r.count = count.toNat ∧ r.policy.code = policy
              ∧ boolByte r.regionEnd = regionEnd
              ∧ (∀ m : Fin 32, t.tables.regions[m] = if m.val = region.toNat then some r else s.tables.regions[m])
              ∧ t.tables.bankA = s.tables.bankA ∧ t.tables.bankB = s.tables.bankB ∧ t.tables.active = s.tables.active
              ∧ t.tables.pending = s.tables.pending
              ∧ (∀ tile, t.bit tile = (s.bit tile || (decide running && (policy == 0 || policy == 1)
                && decide (base.toNat ≤ tile ∧ tile < base.toNat + count.toNat ∧ tile < 131072))))
              ∧ t.mgmt = { s.mgmt with reply := ⟨.ok, []⟩ } ∧ s.changesOnly t [.tables, .map, .mgmt]))))

/-- R24: CLEAR_REGION. -/
def Obligations.ClearRegion : Prop :=
  ∀ (region : Byte) (s : State), s.mgmt.inReset = false →
    let busy := s.mgmt.role = .receiver ∧ (s.rx.state = .receiving ∨ s.rx.state = .insync)
    let locked := s.mgmt.role = .sender ∧ s.camp.state ≠ .idle ∧ s.camp.state ≠ .armed
      ∧ region.toNat ∈ s.tables.lockedSet
    (busy → exec (.clearRegion region) s = .next (s.replied .busy []))
    ∧ (¬ busy → 31 < region.toNat → exec (.clearRegion region) s = .next (s.replied .range []))
    ∧ (¬ busy → region.toNat ≤ 31 → locked → exec (.clearRegion region) s = .next (s.replied .locked []))
    ∧ (¬ busy → region.toNat ≤ 31 → ¬ locked →
      ∃ t, exec (.clearRegion region) s = .next t
        ∧ (∀ m : Fin 32, t.tables.regions[m] = if m.val = region.toNat then none else s.tables.regions[m])
        ∧ t = { s with tables.regions := t.tables.regions, mgmt.reply := ⟨.ok, []⟩ }
        ∧ ∀ tile, (∀ r, s.tables.region region.toNat = some r → r.has tile = true) →
          (∀ m : Fin 32, m.val ≠ region.toNat → ∀ r, s.tables.regions[m] = some r → r.has tile = false) →
          t.tables.policyAt tile = .skip)

/-- R26: LOAD_BANK. R27: SELECT_BANK, state by state. -/
def Obligations.LoadAndSelectBank : Prop :=
  (∀ (bank : Byte) (entries : List Byte) (s : State), s.mgmt.inReset = false →
      let busy := s.mgmt.role = .receiver ∧ (s.rx.state = .receiving ∨ s.rx.state = .insync)
      let running := s.mgmt.role = .sender ∧ s.camp.state ≠ .idle ∧ s.camp.state ≠ .armed
      (busy → exec (.loadBank bank entries) s = .next (s.replied .busy []))
      ∧ (¬ busy → 1 < bank.toNat ∨ 64 < entries.length ∨ (∃ e ∈ entries, 31 < e.toNat) →
        exec (.loadBank bank entries) s = .next (s.replied .range []))
      ∧ (¬ busy → entries.length ≤ 64 → (∀ e ∈ entries, e.toNat ≤ 31) → ∀ b : Bank, bank = b.code →
        (running ∧ (s.tables.active = b ∨ s.tables.pending = some b) →
          exec (.loadBank bank entries) s = .next (s.replied .locked []))
        ∧ (¬ (running ∧ (s.tables.active = b ∨ s.tables.pending = some b)) →
          ∃ t, exec (.loadBank bank entries) s = .next t ∧ t.tables.entries b = entries.map BitVec.toNat
            ∧ (∀ c : Bank, c ≠ b → t.tables.entries c = s.tables.entries c)
            ∧ t = { s with
              tables := { s.tables with bankA := t.tables.bankA, bankB := t.tables.bankB }
              mgmt.reply := ⟨.ok, []⟩ })))
  ∧ (∀ (bank : Byte) (s : State), s.mgmt.inReset = false →
      (1 < bank.toNat → exec (.selectBank bank) s = .next (s.replied .range []))
      ∧ ∀ b : Bank, bank = b.code →
        (s.mgmt.role = .receiver → s.rx.state = .receiving ∨ s.rx.state = .insync →
          exec (.selectBank bank) s = .next (s.replied .busy []))
        ∧ (s.mgmt.role = .receiver ∧ (s.rx.state = .idle ∨ s.rx.state = .live)
            ∨ s.mgmt.role = .sender ∧ (s.camp.state = .idle ∨ s.camp.state = .armed) →
          exec (.selectBank bank) s = .next (State.replied { s with tables.active := b } .ok []))
        ∧ (s.mgmt.role = .sender → s.camp.state = .sweep ∨ s.camp.state = .settle →
          (s.tables.active ≠ b → exec (.selectBank bank) s =
            .next (State.replied { s with tables.pending := some b } .ok []))
          ∧ (s.tables.active = b → exec (.selectBank bank) s =
            .next (State.replied { s with tables.pending := none } .ok [])))
        ∧ (s.mgmt.role = .sender → s.camp.state ∉ [SenderState.idle, .armed, .sweep, .settle] →
          exec (.selectBank bank) s = .next (s.replied .busy [])))

/-- R53, R79, R93, R120, R165, R177: SET_TUNING. It is taken in IDLE and ARMED of the sender and in IDLE of the receiver;
an enumeration outside its set refuses the whole command; each number is taken at the nearest value of its range, and the
reply echoes the settings in force. -/
def Obligations.SetTuning : Prop :=
  ∀ (a : TuningArgs) (s : State), s.mgmt.inReset = false →
    let allowed := s.mgmt.role = .sender ∧ (s.camp.state = .idle ∨ s.camp.state = .armed)
      ∨ s.mgmt.role = .receiver ∧ s.rx.state = .idle
    let named := a.audit.toNat ≤ 1 ∧ a.cueAbort.toNat ≤ 1 ∧ a.nonConvergence.toNat ≤ 1 ∧ a.overflow.toNat ≤ 1
    let exact := a.startDelay.toNat ≤ 60000 ∧ a.settleDelay.toNat ≤ 1000
      ∧ (100 ≤ a.holdBudget.toNat ∧ a.holdBudget.toNat ≤ 100000) ∧ a.mirrorThreshold.toNat ≤ 131071
      ∧ (1 ≤ a.stallRatio.toNat ∧ a.stallRatio.toNat ≤ 1023) ∧ a.step.toNat ≤ 16
      ∧ (1 ≤ a.ceiling.toNat ∧ a.ceiling.toNat ≤ 64) ∧ a.stallLimit.toNat ≤ 1000
      ∧ (1 ≤ a.applyTimeout.toNat ∧ a.applyTimeout.toNat ≤ 100) ∧ 1 ≤ a.demandWait.toNat ∧ a.demandWait.toNat ≤ 100
    (¬ allowed → exec (.setTuning a) s = .next (s.replied .busy []))
    ∧ (allowed → ¬ named → exec (.setTuning a) s = .next (s.replied .range []))
    ∧ (allowed → named → ∃ c : Settings, exec (.setTuning a) s =
        .next (State.replied { s with cfg := c } (if exact then .ok else .clamped) c.tuningBytes)
      ∧ c.startDelay = min 60000 a.startDelay.toNat ∧ c.settleDelay = min 1000 a.settleDelay.toNat
      ∧ c.holdBudget = max 100 (min 100000 a.holdBudget.toNat) ∧ c.mirrorThreshold = min 131071 a.mirrorThreshold.toNat
      ∧ c.passLimit = a.passLimit.toNat ∧ c.stallRatio = max 1 (min 1023 a.stallRatio.toNat)
      ∧ c.step = min 16 a.step.toNat ∧ c.ceiling = max 1 (min 64 a.ceiling.toNat)
      ∧ c.stallLimit = min 1000 a.stallLimit.toNat ∧ c.applyTimeout = max 1 (min 100 a.applyTimeout.toNat)
      ∧ c.demandWait = max 1 (min 100 a.demandWait.toNat)
      ∧ boolByte c.audit = a.audit ∧ c.cueAbort.code = a.cueAbort ∧ c.nonConvergence.code = a.nonConvergence
      ∧ c.overflow.code = a.overflow
      ∧ c.share = s.cfg.share ∧ c.cueMode = s.cfg.cueMode ∧ c.paceEnable = s.cfg.paceEnable
      ∧ c.eventMask = s.cfg.eventMask ∧ c.alertMask = s.cfg.alertMask ∧ c.linkEnable = s.cfg.linkEnable
      ∧ c.blanking = s.cfg.blanking ∧ c.offTime = s.cfg.offTime ∧ c.relink = s.cfg.relink
      ∧ c.peerWait = s.cfg.peerWait
      ∧ (exact → c.tuningBytes = tuningArgBytes a))

/-- R17, and R15's three lines for SET_SHARE: the setting is clamped to 1 to 64 and the effective share follows it unless a
boost above the new setting is in force; the reply carries both. It is taken in every state of either role, and the setting
is kept across warm and soft reset and is 16 at power-on. That the reply's effective share is the stored one also while the
override of R16 runs is the model's reading (notes/assumptions/53.md). -/
def Obligations.SetShare : Prop :=
  (∀ (share : Byte) (s : State), s.mgmt.inReset = false → ∃ n e : Nat,
    (share.toNat = 0 → n = 1) ∧ (64 < share.toNat → n = 64) ∧ (1 ≤ share.toNat → share.toNat ≤ 64 → n = share.toNat)
    ∧ (s.conv.boost = true ∧ n < s.conv.share → e = s.conv.share) ∧ (¬ (s.conv.boost = true ∧ n < s.conv.share) → e = n)
    ∧ exec (.setShare share) s = .next (State.replied
      { s with
        cfg.share := n
        conv := { s.conv with share := e, boost := s.conv.boost && decide (n < s.conv.share) } }
      (if n = share.toNat then .ok else .clamped) [BitVec.ofNat 8 n, BitVec.ofNat 8 e]))
  ∧ (∀ s t : State, exec .warmReset s = .next t → t.cfg.share = s.cfg.share)
  ∧ (∀ s t : State, exec .softReset s = .next t → t.cfg.share = s.cfg.share)
  ∧ ∀ (straps : BitVec 3) (s t : State), exec (.powerOn straps) s = .next t → t.cfg.share = 16

/-- R57, R66, R79, R135, R177, R185: SET_LINES in every state, SET_LINK in IDLE and ARMED of the sender and IDLE of the
receiver. A value outside an enumeration or a mask refuses the whole command; the peer wait is clamped to 1 to 600; turning
the link off in a state other than DOWN takes it DOWN, and turning it on trains it where R130 allows. -/
def Obligations.SetLinesAndLink : Prop :=
  ∀ s : State, s.mgmt.inReset = false →
    (∀ (cueMode paceEnable eventMask : Byte) (alertMask : BitVec 16),
      let named := cueMode.toNat ≤ 3 ∧ paceEnable.toNat ≤ 1 ∧ eventMask.toNat < 64 ∧ alertMask.toNat < 2048
      (¬ named → exec (.setLines cueMode paceEnable eventMask alertMask) s = .next (s.replied .range []))
      ∧ (named → ∃ (m : CueMode) (p : Bool), m.code = cueMode ∧ boolByte p = paceEnable
        ∧ exec (.setLines cueMode paceEnable eventMask alertMask) s = .next (State.replied
          { s with
            cfg := { s.cfg with
              cueMode := m
              paceEnable := p
              eventMask := eventMask.setWidth 6
              alertMask := alertMask.setWidth 11 } }
          .ok ([cueMode, paceEnable, eventMask] ++ leBytes 2 alertMask.toNat))))
    ∧ ∀ (enable blanking offTime relink : Byte) (peerWait : BitVec 16),
      let allowed := s.mgmt.role = .sender ∧ (s.camp.state = .idle ∨ s.camp.state = .armed)
        ∨ s.mgmt.role = .receiver ∧ s.rx.state = .idle
      let named := enable.toNat ≤ 1 ∧ blanking.toNat ≤ 3 ∧ offTime.toNat ≤ 3 ∧ relink.toNat ≤ 1
      (¬ allowed → exec (.setLink enable blanking offTime relink peerWait) s = .next (s.replied .busy []))
      ∧ (allowed → ¬ named → exec (.setLink enable blanking offTime relink peerWait) s = .next (s.replied .range []))
      ∧ (allowed → named → ∃ (c : Settings) (n : Nat) (t : State), n = max 1 (min 600 peerWait.toNat)
        ∧ boolByte c.linkEnable = enable ∧ c.blanking.code = blanking ∧ c.offTime.code = offTime
        ∧ c.relink.code = relink
        ∧ c = { s.cfg with
          linkEnable := c.linkEnable
          blanking := c.blanking
          offTime := c.offTime
          relink := c.relink
          peerWait := n }
        ∧ exec (.setLink enable blanking offTime relink peerWait) s = .next t
        ∧ t.cfg = c
        ∧ t.mgmt.reply = ⟨if n = peerWait.toNat then .ok else .clamped,
          [enable, blanking, offTime, relink] ++ leBytes 2 n⟩
        ∧ (enable = 0 → t.link.state = .down ∧ (s.link.state ≠ .down → t.link.quiet = some 1000 ∧ t.txq.credits = 0)
          ∧ (s.link.state = .down → t = State.replied { s with cfg := c } t.mgmt.reply.status t.mgmt.reply.data))
        ∧ (enable = 1 → t = State.replied
          { s with
            cfg := c
            link := if s.link.state = .down ∧ s.link.quiet = none ∧ s.link.signal0 = true ∧ s.link.signal1 = true then
              { s.link with state := .training, silence := some 5000 } else s.link }
          t.mgmt.reply.status t.mgmt.reply.data))

/-- R178, R179, R180, R175: CLEAR_LATCHES clears the named conditions and no other and returns what stands after it, and
refuses a set with anything outside the eleven; a read stores its picture and changes nothing else, but that READ_STATUS
sets the event tally to 0; a message that spells no command is BAD_COMMAND. R181: the levels of SYNC and ALERT. That ALERT is
low while no masked condition is set, after a reset too, is the model's reading (notes/assumptions/48.md), as is that a sender
reads as paused in FREEZE and DRAIN too (notes/assumptions/60.md). The 0 or
1 ahead of an item that may be absent is the model's choice (notes/assumptions/5.md), and the byte of a pass outcome is
free (notes/assumptions/4.md). -/
def Obligations.ClearLatchesAndReads : Prop :=
  ∀ s : State, s.mgmt.inReset = false →
    (∀ conditions : BitVec 16,
      (2048 ≤ conditions.toNat → exec (.clearLatches conditions) s = .next (s.replied .range []))
      ∧ (conditions.toNat < 2048 → ∃ t, exec (.clearLatches conditions) s = .next t
        ∧ (∀ i < 11, t.mgmt.latches.getLsbD i = (s.mgmt.latches.getLsbD i && !conditions.getLsbD i))
        ∧ t = State.replied { s with mgmt.latches := t.mgmt.latches } .ok (leBytes 2 t.mgmt.latches.toNat)))
    ∧ exec .readStatus s = .next (State.replied { s with mgmt.tally := Vector.replicate 6 0 } .ok
        ([s.mgmt.role.code, if s.mgmt.role = .sender then s.camp.state.code else s.rx.state.code]
          ++ leBytes 2 (if s.mgmt.role = .sender then s.camp.number else s.rx.held).toNat ++ [s.link.state.code]
          ++ (match s.link.peer with
            | none => [0]
            | some p => [1, p.role.code] ++ leBytes 8 p.identity.toNat ++ leBytes 4 p.size ++ leBytes 2 p.number.toNat
              ++ [p.state] ++ leBytes 2 p.total.toNat)
          ++ leBytes 4 s.countD ++ leBytes 4 s.countL
          ++ [BitVec.ofNat 8 (if s.camp.shareOverride then 64 else s.conv.share), BitVec.ofNat 8 s.cfg.share,
            s.tables.active.code]
          ++ (match s.tables.pending with
            | none => [0]
            | some b => [1, b.code])
          ++ [boolByte (s.mgmt.role == .sender && (s.camp.breakFlag || s.cfg.paceEnable && s.mgmt.pace)),
            boolByte s.camp.breakFlag, boolByte s.mgmt.pace, BitVec.ofNat 8 s.eng.inFlight.length]
          ++ leBytes 2 s.txq.queue.length
          ++ [if s.mgmt.role = .sender then BitVec.ofNat 8 s.txq.credits else 0]
          ++ leBytes 2 s.mgmt.latches.toNat
          ++ [boolByte s.syncLevel, boolByte s.alertLevel, boolByte s.mgmt.cue, boolByte s.mgmt.pace]
          ++ s.mgmt.tally.toList.map fun n => BitVec.ofNat 8 n))
    ∧ (s.syncLevel = true ↔ s.mgmt.role = .sender ∧ s.camp.state = .insync
        ∨ s.mgmt.role = .receiver ∧ (s.rx.state = .insync ∨ s.rx.state = .live))
    ∧ (s.alertLevel = true ↔ ∃ i < 11, s.mgmt.latches.getLsbD i = true ∧ s.cfg.alertMask.getLsbD i = true)
    ∧ exec .readCounters s = .next (s.replied .ok
        (leBytes 2 s.camp.passNumber ++ leBytes 4 s.conv.k ++ leBytes 4 s.conv.w ++ leBytes 2 s.conv.s
          ++ [boolByte s.conv.sMark, BitVec.ofNat 8 s.conv.flat]
          ++ (match s.conv.lastPass with
            | none => [0]
            | some p => [1] ++ leBytes 2 p.pass ++ leBytes 4 p.k ++ leBytes 4 p.w ++ leBytes 4 p.r ++ leBytes 2 p.rho
              ++ leBytes 2 p.s ++ [BitVec.ofNat 8 p.flat, BitVec.ofNat 8 p.share, Config.passOutcomeCode p.outcome.index])
          ++ leBytes 2 s.mon.degrade ++ leBytes 2 s.aud.mismatch ++ [BitVec.ofNat 8 s.aud.failed]))
    ∧ (∀ region : Byte, exec (.readRegion region) s = .next (match s.tables.regions[region.toNat]? with
        | none => s.replied .range []
        | some none => s.replied .ok [0]
        | some (some r) => s.replied .ok
          ([1] ++ leBytes 4 r.base ++ leBytes 4 r.count ++ [r.policy.code, boolByte r.regionEnd])))
    ∧ (∀ bank : Byte, (1 < bank.toNat → exec (.readBank bank) s = .next (s.replied .range []))
      ∧ ∀ b : Bank, bank = b.code → exec (.readBank bank) s = .next (s.replied .ok
        ([BitVec.ofNat 8 (s.tables.entries b).length] ++ (s.tables.entries b).map (fun n => BitVec.ofNat 8 n)
          ++ [boolByte (s.tables.active == b), boolByte (s.tables.pending == some b)])))
    ∧ exec .readFaults s = .next (s.replied .ok ([BitVec.ofNat 8 s.eng.faults.length]
        ++ s.eng.faults.flatMap fun f => leBytes 4 f.tile ++ [BitVec.ofNat 8 f.strikes, boolByte f.quarantined]))
    ∧ exec .readExit s = .next (s.replied .ok ([s.camp.exit.reason.code] ++ leBytes 2 s.camp.exit.number.toNat
        ++ leBytes 2 s.camp.exit.lastPass ++ leBytes 4 s.camp.exit.dirtyD ++ leBytes 4 s.camp.exit.dirtyL
        ++ [BitVec.ofNat 8 s.camp.exit.faults] ++ leBytes 2 s.camp.exit.degrade))
    ∧ ∀ (code : Byte) (args : List Byte), exec (.unknownCommand code args) s = .next (s.replied .badCommand [])

/-! ### The campaign (chapters 4, 5 and 10) -/

/-- R56, R58, R59, R60: START and a start edge of CUE in ARMED. The first failing check gives the reply, or latches
CUE_IGNORED, and the sender stays in ARMED; with none, the steps of R58 are taken and DELAY or PLAN is entered. -/
def Obligations.StartAndStartEdge : Prop :=
  ∀ s : State, s.mgmt.inReset = false → s.mgmt.role = .sender → s.camp.state = .armed →
    let plan := s.tables.validRegions s.tables.active
    let noPeer := s.link.state ≠ .up ∨ ∀ p, s.link.peer = some p → p.role ≠ .receiver
    let empty := s.tables.entries s.tables.active = []
    let tooBig := ∀ p, s.link.peer = some p → ∃ r ∈ plan, p.size < r.2.base + r.2.count
    let fails := noPeer ∨ empty ∨ tooBig
    (noPeer → exec .start s = .next (s.replied .noPeer []))
    ∧ (¬ noPeer → empty → exec .start s = .next (s.replied .empty []))
    ∧ (¬ noPeer → ¬ empty → tooBig → exec .start s = .next (s.replied .size []))
    ∧ (fails → s.cfg.cueMode ≠ .off →
      exec (.cueEdge true) s = .next (State.latch { s with mgmt.cue := true } .cueIgnored))
    ∧ (¬ fails → ∃ p t, s.link.peer = some p ∧ exec .start s = .next t
      ∧ (s.cfg.cueMode ≠ .off → exec (.cueEdge true) s =
        .next { t with mgmt.reply := s.mgmt.reply, mgmt.cue := true })
      ∧ t.mgmt = { (s.mgmt.raise s.cfg.eventMask .campaignStart) with reply := ⟨.ok, []⟩ }
      ∧ t.camp.number = (if s.camp.number = 0xffff#16 then 1 else s.camp.number + 1)
      ∧ t.camp.breakFlag = false ∧ t.camp.auditPassed = false ∧ t.camp.tries = 0 ∧ t.camp.passNumber = 0
      ∧ t.camp.synced = false ∧ t.camp.peerIdentity = p.identity ∧ t.camp.peerSize = p.size
      ∧ t.eng.faults = [] ∧ t.eng.demandQueue = [] ∧ t.mon.degrade = 0 ∧ t.aud = Audit.reset
      ∧ t.conv = Convergence.reset s.cfg.share
      ∧ (∀ tile, t.bit tile = (s.bit tile || (decide (tile < 131072)
        && plan.any fun r => (r.2.policy == .copy || r.2.policy == .late) && r.2.has tile)))
      ∧ (0 < s.cfg.startDelay → t.camp.state = .delay ∧ t.camp.startDelay = some (s.cfg.startDelay * 1000)
        ∧ t.txq = s.txq)
      ∧ (s.cfg.startDelay = 0 → t.camp.state = .plan ∧ t.camp.planWait = some 100000
        ∧ t.txq = s.txq.join (.plan plan)
        ∧ (∃ first, .beginCampaign t.camp.number s.mgmt.identity first ∈ t.link.control ∧ first = s.txq.nextSeq))
      ∧ s.changesOnly t [.mon, .map, .camp, .conv, .eng, .aud, .txq, .link, .mgmt])

/-- R73, R74, R60, R76, R77: the ends of a campaign in IDLE. An IMMEDIATE abort takes the closing steps at once, an ORDERLY one
when nothing is in flight and enters ENDING otherwise; once HANDOVER has been sent either kind enters HANDED_OVER. The plan
wait, the peer wait, the wait for an answer to RESUME, PLAN_REFUSE and the emptying of the in-flight table in ENDING end it
with their own reasons. The model's reading: an end from INSYNC raises no INSYNC_LEAVE (notes/assumptions/27.md), entry to
HANDED_OVER sets the tiles in flight dirty and counts them in the exit record (notes/assumptions/26.md), PLAN_REFUSE ends a
campaign in ENDING and in DRAIN after HANDOVER as in any other state (notes/assumptions/25.md), and the mismatch count of an
unfinished audit pass is dropped (notes/assumptions/49.md). -/
def Obligations.ClosingSteps : Prop :=
  ∀ s : State,
    let running := s.camp.state ∉ [SenderState.idle, .armed, .handedOver]
    let sent := s.camp.state = .drain ∧ s.camp.handoverSent = true
    (s.mgmt.inReset = false → s.mgmt.role = .sender → running →
      (sent → exec (.abort 0) s = .next ((s.handedOver .handoverUnconfirmed).replied .ok [])
        ∧ exec (.abort 1) s = .next ((s.handedOver .handoverUnconfirmed).replied .ok []))
      ∧ (¬ sent → s.camp.state ≠ .ending → exec (.abort 0) s = .next ((s.ended .abortCommand).replied .ok [])
        ∧ (s.eng.inFlight = [] → exec (.abort 1) s = .next ((s.ended .abortCommand).replied .ok []))
        ∧ (s.eng.inFlight ≠ [] → exec (.abort 1) s = .next (State.replied
          { s.inState .ending with camp.endReason := .abortCommand, camp.settle := none } .ok [])))
      ∧ (s.camp.state = .ending → exec (.abort 0) s = .next ((s.ended s.camp.endReason).replied .ok [])
        ∧ exec (.abort 1) s = .next (s.replied .ok []))
      ∧ ∀ kind : Byte, 1 < kind.toNat → exec (.abort kind) s = .next (s.replied .range []))
    ∧ exec .planWaitExpiry s = .next (if s.camp.state = .plan ∧ s.camp.planWait ≠ none then s.ended .peerSilent else s)
    ∧ exec .peerWaitExpiry s = .next (if s.camp.state = .stalled ∧ s.camp.peerWait ≠ none then s.ended .peerTimeout else s)
    ∧ exec .resumeWaitExpiry s = .next
        (if s.camp.state = .stalled ∧ s.camp.resumeWait ≠ none then s.ended .peerSilent else s)
    ∧ exec .endingClose s = .next
        (if s.camp.state = .ending ∧ s.eng.inFlight = [] then s.ended s.camp.endReason else s)
    ∧ ∀ reason : Byte, s.mgmt.role = .sender → s.link.state = .up ∨ s.link.state = .cooldown →
      exec (.planRefuse reason) s = .next
        (if reason = 1 ∧ running then s.goodReceived.ended .sizeMismatch else s.goodReceived)

/-- R57, R66, R73, R182: the CUE and PACE inputs. A falling edge, an edge on a receiver, with the cue mode OFF, or in a state
that the mode gives nothing, changes the level alone; under START_ABORT an edge aborts a running campaign by the cue abort mode
with ABORT_CUE; under START_BREAK it toggles the break flag in SWEEP, SETTLE, MIRROR and AUDIT. The model's reading: an abort
from INSYNC raises no INSYNC_LEAVE (notes/assumptions/27.md), one after HANDOVER sets the tiles in flight dirty and counts them
in the exit record (notes/assumptions/26.md), one in AUDIT drops the mismatch count of the unfinished pass
(notes/assumptions/49.md), and a rising edge counts while the level is high already (notes/assumptions/33.md). -/
def Obligations.CueAndPace : Prop :=
  ∀ s : State,
    (∀ high : Bool, exec (.paceChange high) s = .next { s with mgmt.pace := high })
    ∧ exec (.cueEdge false) s = .next { s with mgmt.cue := false }
    ∧ (let s1 := { s with mgmt.cue := true }
      (s.mgmt.role = .receiver ∨ s.cfg.cueMode = .off ∨ s.camp.state ∈ [SenderState.idle, .handedOver]
          ∨ s.cfg.cueMode = .start ∧ s.camp.state ≠ .armed
          ∨ s.cfg.cueMode = .startBreak ∧ s.camp.state ∉ [SenderState.armed, .sweep, .settle, .mirror, .audit] →
        exec (.cueEdge true) s = .next s1)
      ∧ (s.mgmt.role = .sender → s.cfg.cueMode = .startBreak →
        s.camp.state ∈ [SenderState.sweep, .settle, .mirror, .audit] →
        exec (.cueEdge true) s = .next { s1 with camp.breakFlag := !s.camp.breakFlag })
      ∧ (s.mgmt.role = .sender → s.cfg.cueMode = .startAbort →
        s.camp.state ∉ [SenderState.idle, .armed, .handedOver] →
        exec (.cueEdge true) s = .next
          (if s.camp.state = .drain ∧ s.camp.handoverSent = true then s1.handedOver .handoverUnconfirmed
          else if s.camp.state = .ending then
            (if s.cfg.cueAbort = .immediate then s1.ended s.camp.endReason else s1)
          else if s.cfg.cueAbort = .immediate ∨ s.eng.inFlight = [] then s1.ended .abortCue
          else { s1.inState .ending with camp.endReason := .abortCue, camp.settle := none })))

/-- R28, R59, R60, R61, R62, R77: the expiry of the start delay enters PLAN with BEGIN and the plan queued; PLAN_ACK with
the current campaign number, the expiry of the settle delay and RESUME_ACK each begin a pass, in SWEEP, in SWEEP, and in
SWEEP or MIRROR by the state STALLED was entered from. Out of their states they change nothing. -/
def Obligations.PassesBegin : Prop :=
  ∀ s : State, s.mgmt.role = .sender →
    (∃ t, exec .startDelayExpiry s = .next t
      ∧ (s.camp.state = .delay → s.camp.startDelay ≠ none → t.camp.state = .plan ∧ t.camp.planWait = some 100000
        ∧ t.camp.startDelay = none
        ∧ t.txq = s.txq.join (.plan (s.tables.validRegions s.tables.active))
        ∧ (∃ c ∈ t.link.control, c = .beginCampaign s.camp.number s.mgmt.identity s.txq.nextSeq)
        ∧ s.changesOnly t [.camp, .txq, .link])
      ∧ (s.camp.state ≠ .delay ∨ s.camp.startDelay = none → t = s))
    ∧ (∃ t, exec .settleExpiry s = .next t
      ∧ (s.camp.state = .settle → s.camp.settle ≠ none →
        State.passBegun { s with camp.settle := none } t .sweep)
      ∧ (s.camp.state ≠ .settle ∨ s.camp.settle = none → t = s))
    ∧ (s.link.state = .up ∨ s.link.state = .cooldown →
      (∀ number : Seq, ∃ t, exec (.planAck number) s = .next t
        ∧ (s.camp.state = .plan → number = s.camp.number →
          State.passBegun { s.goodReceived with camp.planWait := none } t .sweep)
        ∧ (s.camp.state ≠ .plan ∨ number ≠ s.camp.number → t = s.goodReceived))
      ∧ (∀ number : Seq, ∃ t, exec (.resumeAck number) s = .next t
        ∧ (s.camp.state = .stalled → s.camp.resumeWait ≠ none → number = s.camp.number →
          t.camp.state = (if s.camp.stalledFrom = .sweep ∨ s.camp.stalledFrom = .settle then .sweep else .mirror)
          ∧ t.camp.resumeWait = none ∧ t.camp.resumeRepeat = none ∧ t.camp.synced = false
          ∧ t.camp.passNumber = min 65535 (s.camp.passNumber + 1) ∧ t.conv = s.conv ∧ t.eng.sweep = ⟨0, 0⟩
          ∧ (s.camp.synced = false → State.passBegun
            { s.goodReceived with camp.resumeWait := none, camp.resumeRepeat := none } t t.camp.state)
          ∧ (s.camp.synced = true → s.tables.pending = none → t.txq = s.txq.join (.syncMark false)))
        ∧ (s.camp.state ≠ .stalled ∨ s.camp.resumeWait = none ∨ number ≠ s.camp.number → t = s.goodReceived)))

/-- R84 to R88, R92: the pass end in SWEEP, once the walk has passed the last entry and nothing is in flight. R is D; the pass
ratio is 0 for no work, 1023 for writes without copies, else 256 W / K up to 1023; S is the ratio at first and the mean rounded
half up after; the first item of R87 that applies decides, and the record holds what was sampled and decided. R61, R97, in
SWEEP and MIRROR: while a tile is in flight or the walk is not past the last entry nothing changes; a walk with no tile left to
offer passes the entries that are left first, at that moment by the model's reading (notes/assumptions/8.md). -/
def Obligations.PassEndInSweep : Prop :=
  ∀ s : State, s.mgmt.role = .sender → s.camp.state = .sweep ∨ s.camp.state = .mirror →
    (s.passGoesOn → exec .passEnd s = .next s)
    ∧ (s.passRunsOut → exec .passEnd s = exec .passEnd s.sweptOut)
    ∧ (s.camp.state = .sweep → s.eng.inFlight = [] → s.bankEntries.length ≤ s.eng.sweep.entry →
      let r := s.countD
      let k := s.conv.k
      let w := s.conv.w
      ∃ (rho sm : Nat) (t : State), exec .passEnd s = .next t
        ∧ (k = 0 → w = 0 → rho = 0) ∧ (k = 0 → 0 < w → rho = 1023) ∧ (0 < k → rho = min 1023 (256 * w / k))
        ∧ (s.conv.sMark = false → sm = rho) ∧ (s.conv.sMark = true → sm = (s.conv.s + rho + 1) / 2)
        ∧ (let limit := s.cfg.passLimit ≠ 0 ∧ s.cfg.passLimit ≤ s.camp.passNumber
          let stalled := 2 ≤ s.camp.passNumber ∧ s.cfg.stallRatio ≤ sm
          let raise := s.conv.share < s.cfg.ceiling ∧ 0 < s.cfg.step
          let flat := if r ≤ s.cfg.mirrorThreshold ∨ limit then s.conv.flat
            else if stalled ∧ ¬ raise then s.conv.flat + 1 else 0
          let boosts := ¬ (r ≤ s.cfg.mirrorThreshold ∨ limit) ∧ stalled ∧ raise
          let share := if boosts then min (s.conv.share + s.cfg.step) s.cfg.ceiling else s.conv.share
          let acts := r > s.cfg.mirrorThreshold ∧ (limit ∨ stalled ∧ ¬ raise ∧ 3 ≤ s.conv.flat + 1)
          let outcome := if r ≤ s.cfg.mirrorThreshold then PassOutcome.mirror
            else if acts then (if s.cfg.nonConvergence = .forceMirror then .forced else .notConverged)
            else if boosts then .boost else if stalled then .flat else .continues
          let sampled : State := { s with
            conv := { s.conv with
              k := 0, w := 0, s := sm, sMark := true, flat := flat, share := share
              boost := s.conv.boost || decide boosts
              lastPass := some ⟨s.camp.passNumber, k, w, r, rho, sm, flat, share, outcome⟩ }
            mgmt := s.mgmt.raise s.cfg.eventMask .passEnd }
          (outcome = .mirror ∨ outcome = .forced → sampled.passBegun t .mirror)
          ∧ (outcome = .notConverged → t = sampled.ended .notConverged)
          ∧ (outcome ∈ [PassOutcome.continues, .boost, .flat] →
            (0 < s.cfg.settleDelay →
              t = { sampled.inState .settle with camp.settle := some (s.cfg.settleDelay * 1000) })
            ∧ (s.cfg.settleDelay = 0 → (sampled.inState .settle).passBegun t .sweep))))

/-- R84 to R86, R89, R92: the pass end in MIRROR with D above 0. R61, R97: while a tile is in flight or the walk is not past the
last entry nothing changes. -/
def Obligations.PassEndInMirror : Prop :=
  ∀ s : State, s.mgmt.role = .sender → s.camp.state = .mirror →
    (s.passGoesOn → exec .passEnd s = .next s)
    ∧ (s.eng.inFlight = [] → 0 < s.countD → s.bankEntries.length ≤ s.eng.sweep.entry → ∃ t, exec .passEnd s = .next t
      ∧ (let rho := if s.conv.k = 0 then (if s.conv.w = 0 then 0 else 1023) else min 1023 (256 * s.conv.w / s.conv.k)
        let sm := if s.conv.sMark then (s.conv.s + rho + 1) / 2 else rho
        let limit := s.cfg.passLimit ≠ 0 ∧ s.cfg.passLimit ≤ s.camp.passNumber
        let raises := ¬ limit ∧ 2 ≤ s.camp.passNumber ∧ s.cfg.stallRatio ≤ sm ∧ s.conv.share < s.cfg.ceiling
          ∧ 0 < s.cfg.step
        let share := if raises then min (s.conv.share + s.cfg.step) s.cfg.ceiling else s.conv.share
        let outcome := if limit then PassOutcome.notConverged else if raises then .boost else .continues
        let sampled : State := { s with
          conv := { s.conv with
            k := 0, w := 0, s := sm, sMark := true, share := share, boost := s.conv.boost || decide raises
            lastPass := some ⟨s.camp.passNumber, s.conv.k, s.conv.w, s.countD, rho, sm, s.conv.flat, share, outcome⟩ }
          mgmt := s.mgmt.raise s.cfg.eventMask .passEnd }
        (limit → t = sampled.ended .notConverged) ∧ (¬ limit → sampled.passBegun t .mirror)))

/-- R64, R65, R90, R168: MIRROR with D = 0 and nothing in flight closes its pass: the record is written with outcome CLOSED
and R 0, K and W restart, S, the flat count and the share stay, and AUDIT is entered if audit is enabled and not yet
passed, else INSYNC with SYNC_MARK and INSYNC_ENTER. Otherwise PASS_CLOSE changes nothing. -/
def Obligations.PassCloses : Prop :=
  ∀ s : State,
    let closes := s.mgmt.role = .sender ∧ s.camp.state = .mirror ∧ s.countD = 0 ∧ s.eng.inFlight = []
    (¬ closes → exec .passClose s = .next s)
    ∧ (closes → ∃ t, exec .passClose s = .next t
      ∧ (s.bankEntries.length ≤ s.eng.sweep.entry → exec .passEnd s = .next t)
      ∧ t.conv = { s.conv with
          k := 0
          w := 0
          lastPass := some ⟨s.camp.passNumber, s.conv.k, s.conv.w, 0,
            if s.conv.k = 0 then (if s.conv.w = 0 then 0 else 1023) else min 1023 (256 * s.conv.w / s.conv.k),
            s.conv.s, s.conv.flat, s.conv.share, .closed⟩ }
      ∧ (s.cfg.audit = true → s.camp.auditPassed = false →
        t.camp = { s.camp with state := .audit } ∧ t.eng = { s.eng with scanPointer := 0 } ∧ t.txq = s.txq
          ∧ s.auditWalkBegun t ∧ t.aud.failed = s.aud.failed
          ∧ (t.aud.walkDone = true ↔ ∀ q ∈ s.tables.validRegions s.tables.active, q.2.policy ≠ .copy)
          ∧ t.mgmt = s.mgmt.raise s.cfg.eventMask .passEnd)
      ∧ (s.cfg.audit = false ∨ s.camp.auditPassed = true →
        t.camp = { s.camp with state := .insync, synced := true } ∧ t.eng = s.eng ∧ t.aud = s.aud
          ∧ t.txq = s.txq.join (.syncMark true)
          ∧ t.mgmt = (s.mgmt.raise s.cfg.eventMask .passEnd).raise s.cfg.eventMask .insyncEnter)
      ∧ s.changesOnly t [.conv, .camp, .eng, .aud, .txq, .link, .mgmt])

/-- R169, R172: an audit pass ends when its walk is done, nothing is in flight and D = 0: with no mismatch the sender has
passed its audit and enters INSYNC; with some, the failed-pass count rises and a new pass begins, or, at 3, the campaign
ends with AUDIT_FAILED, its mismatch count kept. Until then nothing changes. -/
def Obligations.AuditPassEnds : Prop :=
  ∀ s : State, s.mgmt.role = .sender → s.camp.state = .audit →
    (s.eng.inFlight ≠ [] ∨ s.countD ≠ 0 ∨ s.mayBegin = false ∧ s.aud.walkDone = false →
      exec .auditPassEnd s = .next s)
    ∧ (s.eng.inFlight = [] → s.countD = 0 → s.aud.walkDone = true → ∃ t, exec .auditPassEnd s = .next t
      ∧ (s.aud.mismatch = 0 → t.camp = { s.camp with state := .insync, auditPassed := true, synced := true }
        ∧ t.txq = s.txq.join (.syncMark true) ∧ t.aud.failed = s.aud.failed
        ∧ t.mgmt = s.mgmt.raise s.cfg.eventMask .insyncEnter ∧ s.changesOnly t [.camp, .aud, .txq, .link, .mgmt])
      ∧ (0 < s.aud.mismatch → t.aud.failed = s.aud.failed + 1
        ∧ (s.aud.failed + 1 < 3 → s.auditWalkBegun t ∧ s.changesOnly t [.aud])
        ∧ (3 ≤ s.aud.failed + 1 → ∃ u : State, s.changesOnly u [.aud] ∧ u.aud.failed = s.aud.failed + 1
          ∧ u.aud.mismatch = s.aud.mismatch ∧ t = u.ended .auditFailed)))

/-- R65, R67, R68, R70: HANDOVER takes INSYNC to FREEZE, freezing the first valid LATE region the active bank names,
or through FREEZE to DRAIN where it names none. R16, R39, R44, R68: the copy of a held region begins once no transfer
in passage lies in it, with the share in force 64; it is complete when no tile of the region is dirty, quarantined
tiles aside, or in flight, and the held transfers are then released and the next region is frozen, or DRAIN is entered
after the last. -/
def Obligations.HandoverFreezesRegions : Prop :=
  (∀ s : State, s.mgmt.inReset = false → s.mgmt.role = .sender → s.camp.state = .insync →
      let late := ((s.tables.validRegions s.tables.active).filter fun r => r.2.policy == .late).map fun r => r.1
      (∀ n rest, late = n :: rest → exec .handover s = .next (State.replied
        { s.inState .freeze with
          mon.regionHold := some n
          camp := { s.camp with
            state := .freeze
            freezeList := rest
            copyBegun := false
            holdBudget := some s.cfg.holdBudget }
          mgmt := s.mgmt.raise s.cfg.eventMask .insyncLeave } .ok []))
      ∧ (late = [] → exec .handover s = .next (State.replied
        { s.inState .drain with
          mon.drainHold := true
          camp := { s.camp with
            state := .drain
            freezeList := []
            handoverSent := false
            holdBudget := some s.cfg.holdBudget }
          eng.drainWalk := ⟨0, 0⟩
          mgmt := s.mgmt.raise s.cfg.eventMask .insyncLeave } .ok [])))
  ∧ (∀ s : State, s.mgmt.role = .sender → s.camp.state = .freeze → s.mon.regionHold ≠ none →
      let quiet := ∀ p ∈ s.mon.passage, s.inHeldRegion p.tile = false
      let complete := (∀ tile < 131072, s.inHeldRegion tile = true → s.bit tile = true → s.quarantined tile = true)
        ∧ ∀ e ∈ s.eng.inFlight, s.inHeldRegion e.tile = false
      (s.camp.copyBegun = false →
        (quiet → exec .heldRegionQuiet s = .next
          { s with camp.copyBegun := true, camp.shareOverride := true, eng.freezeWalk := 0 })
        ∧ (¬ quiet → exec .heldRegionQuiet s = .next s)
        ∧ exec .freezeRegionComplete s = .next s)
      ∧ (s.camp.copyBegun = true → exec .heldRegionQuiet s = .next s
        ∧ (¬ complete → exec .freezeRegionComplete s = .next s)
        ∧ (complete → ∀ n rest, s.camp.freezeList = n :: rest → exec .freezeRegionComplete s = .next
          { s.releasedHolds with
            mon.regionHold := some n
            camp.freezeList := rest
            camp.holdBudget := some s.cfg.holdBudget })
        ∧ (complete → s.camp.freezeList = [] → exec .freezeRegionComplete s = .next
          { s.releasedHolds.inState .drain with
            mon.drainHold := true
            camp.holdBudget := some s.cfg.holdBudget
            camp.handoverSent := false
            eng.drainWalk := ⟨0, 0⟩ })))

/-- R44, R70: HANDOVER is queued in DRAIN exactly when the transmit queue and the in-flight table are empty, D + L = 0
and scope is quiet of writes; the budget timer stops and the try count is 1. R69, R72, R73: the hold budget. Its
expiry releases the held transfers and abandons the handover. In FREEZE it latches HOLD_EXPIRED and in DRAIN
HANDOVER_FAILED, and the sender enters INSYNC without a mark where D = 0 and no scope COPY tile is in flight, else
MIRROR with an UNSYNC mark and a new pass; in ENDING it latches HOLD_EXPIRED and the state stays. -/
def Obligations.DrainAndHoldBudget : Prop :=
  (∀ s : State,
      let ready := s.mgmt.role = .sender ∧ s.camp.state = .drain ∧ s.txq.queue = [] ∧ s.txq.backlog = []
        ∧ s.eng.inFlight = [] ∧ s.countD + s.countL = 0
        ∧ ∀ p ∈ s.mon.passage, p.kind.isWrite = true → s.inScope p.tile = false
      (ready → exec .handoverQueued s = .next
        { s with
          camp.holdBudget := none
          camp.tries := 1
          txq.queue := [⟨s.txq.nextEntry, .handover, 0⟩]
          txq.nextEntry := s.txq.nextEntry + 1 })
      ∧ (¬ ready → exec .handoverQueued s = .next s))
  ∧ (∀ s : State, s.mgmt.role = .sender →
      (s.camp.holdBudget = none ∨ s.camp.state ∉ [SenderState.freeze, .drain, .ending] →
        exec .holdBudgetExpiry s = .next s)
      ∧ (s.camp.holdBudget ≠ none →
        let freed := { s.releasedHolds with camp.holdBudget := none, camp.freezeList := [] }
        (s.camp.state = .ending → exec .holdBudgetExpiry s = .next (freed.latch .holdExpired))
        ∧ (s.camp.state = .freeze ∨ s.camp.state = .drain →
          let latched := freed.latch (if s.camp.state = .freeze then .holdExpired else .handoverFailed)
          (s.countD = 0 → (∀ e ∈ s.eng.inFlight, s.scopeIs .copy e.tile = false) →
            exec .holdBudgetExpiry s = .next
              { latched.inState .insync with mgmt := latched.mgmt.raise s.cfg.eventMask .insyncEnter })
          ∧ (s.countD ≠ 0 ∨ (∃ e ∈ s.eng.inFlight, s.scopeIs .copy e.tile = true) →
            ∃ t, exec .holdBudgetExpiry s = .next t
              ∧ State.passBegun
                { latched with camp.synced := false, txq := s.txq.join (.syncMark false) } t .mirror))))

/-! ### Frames that arrive at the sender (chapters 6 to 8 and 10) -/

/-- R119, R131, R136, R142, R184: CREDIT, KEEPALIVE and frames of no defined kind. A good frame restarts the silence timer
and sets the burst count to 0 in BLANKING, UP and COOLDOWN, and is discarded in DOWN and TRAINING, where the model leaves the
silence timer too (its reading, notes/assumptions/22.md). A sender in UP or
COOLDOWN adds the credits of a CREDIT of 1 to 128, or the difference of 1 to 128 between a KEEPALIVE's total and the
credit-taken total, up to 128 in all, and the credit-taken total rises by as much. -/
def Obligations.CreditsAreTaken : Prop :=
  ∀ s : State,
    let deaf := s.link.state = .down ∨ s.link.state = .training
    let takes := s.mgmt.role = .sender ∧ (s.link.state = .up ∨ s.link.state = .cooldown)
    let credited := fun (n : Nat) => { s.goodReceived with
      txq.credits := min 128 (s.txq.credits + n)
      link.creditTaken := s.link.creditTaken + BitVec.ofNat 16 n }
    (∀ n : Byte, exec (.credit n) s = .next (if deaf then s
      else if takes ∧ 1 ≤ n.toNat ∧ n.toNat ≤ 128 then credited n.toNat else s.goodReceived))
    ∧ (∀ total : Seq, ∃ d, d = (total.toNat + 65536 - s.link.creditTaken.toNat) % 65536 ∧
      exec (.keepalive total) s = .next (if deaf then s
        else if takes ∧ 1 ≤ d ∧ d ≤ 128 then credited d else s.goodReceived))
    ∧ ∀ (kind : Byte) (content : List Byte), exec (.undefinedFrame kind content) s =
      .next (if deaf then s else s.goodReceived)

/-- R129, R141, R142, R154, R184: a good HELLO replaces the peer record. In UP it takes the sender's link DOWN when it
reports a departure, and in COOLDOWN it notes the departure for the return to UP; otherwise its credit total is taken as a
KEEPALIVE's is, and nothing more follows in STALLED while RESUME is awaited, when the peer wait no longer runs (R76). On a
receiver that holds a campaign, a sender's HELLO of IDLE, ARMED or another campaign number is taken as an
ABANDON. The model's reading: a HELLO in DOWN and TRAINING changes nothing, the silence timer included
(notes/assumptions/22.md), and one with a field out of its range is received and not stored (notes/assumptions/24.md). -/
def Obligations.HelloIsTaken : Prop :=
  ∀ (b : HelloBody) (s : State),
    let named := (b.role = 1 ∧ b.state.toNat ≤ 13 ∨ b.role = 2 ∧ b.state.toNat ≤ 3)
      ∧ 1 ≤ b.size.toNat ∧ b.size.toNat ≤ 131072
    let p : PeerRecord := ⟨if b.role = 1 then .sender else .receiver, b.identity, b.size.toNat, b.number, b.state, b.total⟩
    let departs := s.camp.state ∈ [SenderState.sweep, .settle, .mirror, .audit, .insync, .freeze, .drain]
      ∧ (b.role = 1 ∨ b.number ≠ s.camp.number ∨ b.state = 0)
    let stored := { s.goodReceived with
      link.peer := some p
      link.departure := decide (s.link.state = .cooldown ∧ s.mgmt.role = .sender ∧ departs) }
    let abandons := b.role = 1 ∧ (b.state = 0 ∨ b.state = 1 ∨ b.number ≠ s.rx.held)
      ∧ (s.rx.state = .receiving ∨ s.rx.state = .insync ∨ s.rx.state = .idle ∧ s.rx.held ≠ 0)
    (s.link.state = .down ∨ s.link.state = .training → exec (.hello b) s = .next s)
    ∧ (s.link.state ∉ [LinkState.down, .training] →
      (¬ named → exec (.hello b) s = .next s.goodReceived)
      ∧ (named → s.mgmt.role = .sender → s.link.state = .up → departs → ∃ t, exec (.hello b) s = .next t
        ∧ t.link.state = .down ∧ t.link.peer = none ∧ t.latched .linkLost = true ∧ t.txq.credits = 0)
      ∧ (named → s.mgmt.role = .sender → ¬ (s.link.state = .up ∧ departs) →
        s.camp.state ≠ .stalled ∨ s.camp.peerWait = none ∨ s.link.state = .blanking →
        ∃ d, d = (b.total.toNat + 65536 - s.link.creditTaken.toNat) % 65536 ∧
        exec (.hello b) s = .next
          (if (s.link.state = .up ∨ s.link.state = .cooldown) ∧ 1 ≤ d ∧ d ≤ 128 then
            { stored with
              txq.credits := min 128 (s.txq.credits + d)
              link.creditTaken := s.link.creditTaken + BitVec.ofNat 16 d }
          else stored))
      ∧ (named → s.mgmt.role = .receiver → ¬ abandons → exec (.hello b) s = .next stored)
      ∧ (named → s.mgmt.role = .receiver → abandons → ∃ t, exec (.hello b) s = .next t ∧ t.link.peer = some p
        ∧ t.rx.state = .idle ∧ t.rx.held = 0 ∧ t.rx.buffer = [] ∧ t.rx.applying = none ∧ t.map = 0
        ∧ t.tables = s.tables))

/-- R82, R105, R117, R118: APPLIED(n) is taken only for a recorded number. The items up to it leave the record, the entries
whose last frame was among them leave the queue, and the copy of each such TILE entry completes: it leaves its tile's bit as
it stands and the in-flight table, and, its faulted flag clear, counts in K for a scope COPY tile and takes the tile's SUSPECT
entry out of the fault list. A covered HANDOVER takes the sender to HANDED_OVER with COMPLETE, whatever items stand ahead of it
in the record, a resync mark among them; that the tiles in flight are set dirty there and counted in the exit record is the
model's reading (notes/assumptions/26.md). -/
def Obligations.AppliedCovers : Prop :=
  ∀ (n : Seq) (s : State), s.QueueLaw → s.mgmt.role = .sender → s.link.state = .up ∨ s.link.state = .cooldown →
    ((∀ i ∈ s.txq.record, i.seq ≠ n) → exec (.applied n) s = .next s.goodReceived)
    ∧ (∀ (before : List SentItem) (i : SentItem) (after : List SentItem),
      s.txq.record = before ++ i :: after → (∀ j ∈ before, j.seq ≠ n) → i.seq = n →
      let covered := fun (e : TxEntry) => decide (e.body.frames ≤ e.sent) && (before ++ [i]).any fun j =>
        j.entry == some e.id && j.index + 1 == e.body.frames
      let completes := fun (f : InFlight) => f.kind == .copy && s.txq.queue.any fun e => covered e && e.body == .tile f.tile
      (∀ e ∈ s.txq.queue, covered e = true → e.body ≠ .handover) →
      ∃ t, exec (.applied n) s = .next t
        ∧ t.txq.record = after
        ∧ (t.txq.queue.filter fun e => decide (e.id < s.txq.nextEntry)) = (s.txq.queue.filter fun e => !covered e)
        ∧ t.txq.nextSeq = s.txq.nextSeq ∧ t.txq.credits = s.txq.credits
        ∧ (∀ e ∈ s.txq.queue, covered e = true → ∀ tile, e.body = .tile tile →
          ∀ f ∈ t.eng.inFlight, f.tile = tile → f.kind ≠ .copy)
        ∧ ((∀ e ∈ s.txq.queue, covered e = true → ∀ tile, e.body ≠ .tile tile) → t.eng = s.eng ∧ t.conv = s.conv)
        ∧ (s.SenderFits → s.Saturated →
          t.conv = { s.conv with
            k := min 1048575 (s.conv.k + (s.eng.inFlight.filter fun f =>
              completes f && !f.faulted && s.scopeIs .copy f.tile).length) }
          ∧ t.eng = { s.eng with
            inFlight := s.eng.inFlight.filter fun f => !completes f
            faults := s.eng.faults.filter fun q =>
              q.quarantined || !s.eng.inFlight.any fun f => completes f && !f.faulted && f.tile == q.tile })
        ∧ s.changesOnly t [.txq, .eng, .conv, .link] ∧ t.link = s.goodReceived.link)
    ∧ ∀ (id : Nat) (behind : List TxEntry) (before after : List SentItem),
      s.txq.queue = ⟨id, .handover, 1⟩ :: behind → s.txq.record = before ++ ⟨n, some id, 0⟩ :: after →
      (∀ j ∈ before, j.seq ≠ n ∧ ∀ e ∈ s.txq.queue, j.entry ≠ some e.id) → s.txq.backlog = [] →
      exec (.applied n) s = .next (s.goodReceived.handedOver .complete)

/-- R120 to R124, R71: loss handling after a GAP at a recorded frame and after an expiry of the apply timer. The items
from the lost frame on leave the record; every entry with a frame among them, and the entry being sent, leaves the
queue, its tile dirty, and a lost copy's tile out of flight; QUARANTINE, PLAN and HANDOVER marks are queued again from
their first frame, at the head of the unsent part, and behind a plan sent again a SYNC_MARK while the sync state is SYNC; in
PLAN the BEGIN is raised again with it (R144); every other entry stays; RESYNC and the resync mark wait with the resync number,
which the numbering continues from. The third loss of HANDOVER takes the sender to HANDED_OVER. R133, R136, R143: a bad frame.
In UP it adds 1 to the burst count, and the fourth in a row gives COOLDOWN with LINK_BURST; on a sender in UP or
COOLDOWN loss handling follows as at an expiry of the apply timer. -/
def Obligations.LossHandlingAndBadFrames : Prop :=
  (∀ s : State, s.mgmt.role = .sender → s.QueueLaw →
      (s.txq.record = [] → exec .applyTimeout s = .next s)
      ∧ (∀ n, s.link.state = .up ∨ s.link.state = .cooldown → (∀ i ∈ s.txq.record, i.seq ≠ n) →
        exec (.gap n) s = .next s.goodReceived)
      ∧ ∀ (c : Instr) (number : Seq) (before lost : List SentItem) (i : SentItem),
        s.txq.record = before ++ i :: lost →
        (c = .applyTimeout ∧ before = [] ∧ number = s.txq.nextSeq
          ∨ c = .gap number ∧ (s.link.state = .up ∨ s.link.state = .cooldown) ∧ i.seq = number
            ∧ ∀ j ∈ before, j.seq ≠ number) →
        let reached := fun e => s.txq.reached (i :: lost) e
        ∃ t, exec c s = .next t
          ∧ ((∃ e ∈ s.txq.queue, reached e = true ∧ e.body = .handover) → 3 ≤ s.camp.tries →
            t.camp.state = .handedOver ∧ t.camp.exit.reason = .handoverUnconfirmed ∧ t.txq.queue = [])
          ∧ ((∀ e ∈ s.txq.queue, reached e = true → e.body ≠ .handover) ∨ s.camp.tries < 3 →
            t.txq.nextSeq = number ∧ t.txq.resync = some number ∧ t.txq.resyncMark = some t.camp.synced
            ∧ (t.txq.record.map fun j => j.seq) = (before.map fun j => j.seq) ∧ t.txq.credits = s.txq.credits
            ∧ (∀ e ∈ s.txq.queue, reached e = false → e ∈ t.txq.queue)
            ∧ (let kept := s.txq.queue.filter fun e => !reached e
              let marks := (s.txq.queue.filter fun e => reached e && e.body.isRequeued).map fun e => { e with sent := 0 }
              let synced := t.camp.synced && s.txq.queue.any fun e => reached e && e.body.isPlan
              let room := decide (kept.length + marks.length < 256)
              (∃ back, t.txq.queue = (kept.filter TxEntry.allSent) ++ marks
                ++ (if synced && room then [⟨s.txq.nextEntry, .syncMark true, 0⟩] else [])
                ++ (kept.filter fun e => !e.allSent) ++ back)
              ∧ (synced = true → room = false → .syncMark true ∈ t.txq.backlog))
            ∧ (s.camp.state = .plan → (∃ e ∈ s.txq.queue, reached e = true ∧ ∃ rs, e.body = .plan rs) →
              .beginCampaign s.camp.number s.mgmt.identity number ∈ t.link.control)
            ∧ ∀ e ∈ s.txq.queue, reached e = true →
              (∀ tile, e.body = .tile tile → tile < 131072 →
                t.bit tile = true ∧ t.isInFlight tile = false ∧ ∀ q ∈ t.txq.queue, q.id ≠ e.id)
              ∧ (∀ tile k, e.body = .tileCut tile k → tile < 131072 →
                t.bit tile = true ∧ ∀ q ∈ t.txq.queue, q.id ≠ e.id)
              ∧ (∀ tile v, e.body = .digest tile v → tile < 131072 →
                t.bit tile = true ∧ ∀ q ∈ t.txq.queue, q.id ≠ e.id)
              ∧ (∀ tag r addr l m d, e.body = .mirror tag r addr l m d →
                t.bit (tileOf addr) = true ∧ ∀ q ∈ t.txq.queue, q.id ≠ e.id)
              ∧ ((∃ tile, e.body = .quarantine tile) ∨ (∃ rs, e.body = .plan rs) ∨ e.body = .handover →
                { e with sent := 0 } ∈ t.txq.queue)
              ∧ (e.body = .handover → t.camp.tries = s.camp.tries + 1)))
  ∧ (∀ s : State,
      let counted : State :=
        if s.link.state = .up ∧ s.link.burst < 3 then { s with link.burst := s.link.burst + 1 }
        else if s.link.state = .up then
          State.latch
            { s with link.state := .cooldown, link.burst := 0, link.offTime := some s.cfg.offTime.time } .linkBurst
        else s
      (s.mgmt.role = .sender → s.link.state = .up ∨ s.link.state = .cooldown →
        exec .badFrame s = exec .applyTimeout counted)
      ∧ (s.mgmt.role = .sender → s.txq.record = [] → exec .badFrame s = .next counted)
      ∧ (s.mgmt.role = .receiver ∨ s.link.state ∉ [LinkState.up, .cooldown] → exec .badFrame s = .next counted))

/-- R106, R108 to R110, R171, R184: FAULTED, DIGEST_RESULT and DEMAND on a sender in UP or COOLDOWN. The second strike of a
tile queues its QUARANTINE mark, behind the UNSYNC mark where the tile's set request has taken INSYNC to MIRROR; that it does so
in STALLED too is the model's choice (notes/assumptions/46.md). -/
def Obligations.ReportsAboutTiles : Prop :=
  ∀ (seq : Seq) (tile : BitVec 32) (s : State), s.mgmt.role = .sender → s.link.state = .up ∨ s.link.state = .cooldown →
    let t := tile.toNat
    let g := s.goodReceived
    (131072 ≤ t → exec (.faulted seq tile) s = .next g ∧ exec (.demand tile) s = .next g
      ∧ ∀ r, exec (.digestResult seq tile r) s = .next g)
    ∧ (t < 131072 →
      -- FAULTED
      (s.camp.state ∈ [SenderState.idle, .armed, .handedOver] → exec (.faulted seq tile) s = .next g)
      ∧ (s.camp.state ∉ [SenderState.idle, .armed, .handedOver] → ∃ u, exec (.faulted seq tile) s = .next u
        ∧ ((∀ f ∈ s.eng.faults, f.tile ≠ t) → s.eng.faults.length < 16 →
          u.bit t = true ∧ u.eng.faults = s.eng.faults ++ [⟨t, 1, false⟩]
          ∧ u.eng.inFlight = s.eng.inFlight.map fun e => if e.tile = t then { e with faulted := true } else e)
        ∧ ((s.eng.faults.find? fun f => f.tile == t) = some ⟨t, 1, false⟩ → u.bit t = true ∧ u.quarantined t = true
          ∧ u.eng.faults = s.eng.faults.map fun f => if f.tile = t then ⟨t, 2, true⟩ else f)
        ∧ (s.quarantined t = true → (∀ f ∈ s.eng.faults, f.tile = t → f.quarantined = true) → u.bit t = true
          ∧ u.eng.faults = s.eng.faults)
        ∧ (let marked := (s.eng.faults.find? fun f => f.tile == t) = some ⟨t, 1, false⟩
          let unmarked := (∀ f ∈ s.eng.faults, f.tile ≠ t) ∧ s.eng.faults.length < 16
            ∨ (s.eng.faults.find? fun f => f.tile == t) = some ⟨t, 2, true⟩
          let leaves := s.camp.state = .insync ∧ s.scopeIs .copy t = true ∧ s.bit t = false ∧ s.quarantined t = false
          (¬ leaves → (marked → u.txq = s.txq.join (.quarantine t) ∧ u.camp = s.camp)
            ∧ (unmarked → u.txq = s.txq ∧ u.camp = s.camp))
          ∧ (leaves → marked ∨ unmarked → u.camp.state = .mirror ∧ u.camp.synced = false)
          ∧ (leaves → s.tables.pending = none → marked → u.txq = (s.txq.join (.syncMark false)).join (.quarantine t))
          ∧ (leaves → s.tables.pending = none → unmarked → u.txq = s.txq.join (.syncMark false)))
        ∧ ((∀ f ∈ s.eng.faults, f.tile ≠ t) → 16 ≤ s.eng.faults.length → u.camp.state = .idle
          ∧ u.eng.faults = s.eng.faults
          ∧ u.camp.exit.reason = if s.camp.state = .ending then s.camp.endReason else .faultListFull))
      -- DIGEST_RESULT
      ∧ (∀ r : Byte, 1 < r.toNat → exec (.digestResult seq tile r) s = .next g)
      ∧ ((∀ e ∈ s.eng.inFlight, ¬ (e.tile = t ∧ e.kind = .audit ∧ e.lastSeq = some seq)) →
        ∀ r, exec (.digestResult seq tile r) s = .next g)
      ∧ (∀ e, (s.eng.inFlight.find? fun e => e.tile == t && e.kind == .audit && e.lastSeq == some seq) = some e →
        let gone := { s.eng with inFlight := s.eng.inFlight.filter fun f => f.tile != t }
        exec (.digestResult seq tile 0) s = .next { g with eng := gone }
        ∧ (e.redirtied = true ∨ e.faulted = true → exec (.digestResult seq tile 1) s = .next { g with eng := gone })
        ∧ (e.redirtied = false → e.faulted = false → ∃ u, exec (.digestResult seq tile 1) s = .next u
          ∧ u.bit t = true ∧ u.latched .auditMismatch = true ∧ u.aud.mismatch = min 16384 (s.aud.mismatch + 1)
          ∧ (s.camp.state ≠ .insync → u.eng = gone ∧ u.map = setBit s.map t)))
      -- DEMAND
      ∧ exec (.demand tile) s = .next
        (if s.camp.state ∈ [SenderState.plan, .sweep, .settle, .mirror, .audit, .insync, .freeze, .drain]
            ∧ (s.scopeIs .copy t = true ∨ s.scopeIs .late t = true) ∧ s.bit t = true ∧ s.isInFlight t = false
            ∧ s.quarantined t = false ∧ t ∉ s.eng.demandQueue ∧ s.eng.demandQueue.length < 8 then
          { g with eng.demandQueue := s.eng.demandQueue ++ [t] }
        else g))

/-- R76, R77, R127, R145: the relink. In STALLED, with the link open and the peer wait running, a HELLO that names a receiver
of the stored identity, not 0, with the current campaign number in RECEIVING or INSYNC has RESUME raised and the two waits
started; any other, or a RESUME_REFUSE while the answer is awaited, restarts: PEER_CHANGED is recorded, the queue is emptied,
and a new campaign starts at PLAN if the peer is a receiver whose memory holds the plan, else the sender enters IDLE. RESUME is
raised again at each repeat. That the decision falls at the later of the link's entry to UP and the HELLO is the model's
reading (notes/assumptions/18.md). -/
def Obligations.RelinkDecision : Prop :=
  ∀ (s : State), s.mgmt.role = .sender → s.link.state = .up ∨ s.link.state = .cooldown → s.camp.state = .stalled →
    (∀ (b : HelloBody) (p : PeerRecord), peerOf b = some p → s.camp.peerWait ≠ none →
      ∃ t, exec (.hello b) s = .next t ∧ t.link.peer = some p ∧ s.relinkedFor t p)
    ∧ (∀ (number : Seq) (p : PeerRecord), s.link.peer = some p → s.camp.resumeWait ≠ none →
      ∃ t, exec (.resumeRefuse number) s = .next t ∧ s.restartedFor t p)
    ∧ (s.camp.resumeWait = none → ∀ number, exec (.resumeRefuse number) s = .next s.goodReceived)
    ∧ (s.camp.resumeRepeat ≠ none → exec .resumeRepeat s = .next
      { s with link.control := controlAdd (.resume s.camp.number s.txq.nextSeq) s.link.control })
    ∧ (s.camp.resumeRepeat = none → exec .resumeRepeat s = .next s)

/-! ### Frames that arrive at the receiver, and the applier (chapter 9) -/

/-- R150, R153, R154, R156, R157: the frames that a receiver with its link UP or in COOLDOWN acts on as they arrive. BEGIN
opens the stream and clears the receiving side but for its region table, its totals and its state, which leaves INSYNC for
RECEIVING; in LIVE it is discarded. RESUME is answered by whether the campaign is held in RECEIVING or INSYNC. ABANDON
clears the receiving side and enters IDLE. An ordered frame joins the buffer in sequence, and any other is discarded with
its credit, the first with a GAP. RESYNC returns the credits of lost frames, renumbers, and puts its marker at the tail of the
buffer of an open stream. The model's reading: a BEGIN of number 0, which no campaign has, is taken like any other and leaves
no campaign held, and an ABANDON with a reason above 14 has no effect beyond that of a good frame
(notes/assumptions/24.md). -/
def Obligations.ReceiverTakesFrames : Prop :=
  ∀ s : State, s.mgmt.role = .receiver → s.link.state = .up ∨ s.link.state = .cooldown →
    let g := s.goodReceived
    let frames := (s.rx.buffer.filter RxItem.isFrame).length
    let active := s.rx.state = .receiving ∨ s.rx.state = .insync
    let unowned := s.mem.outstanding.map fun x => match x.owner with
      | .apply _ | .fill _ _ => { x with owner := .abandoned }
      | .pass _ | .copy _ _ | .abandoned => x
    let emptied := fun (held seen : Seq) (discard : Bool) (state : ReceiverState) =>
      { Receiver.reset with
        state := state
        held := held
        seen := seen
        discard := discard
        arrived := s.rx.arrived
        lossCredited := s.rx.lossCredited }
    let answered := fun (r : Report) => { g with link := g.link.reported r }
    -- BEGIN
    (∀ (number first : Seq) (identity : BitVec 64),
      (s.rx.state = .live → exec (.beginFrame number identity first) s = .next g)
      ∧ (s.rx.state ≠ .live → ∃ t, exec (.beginFrame number identity first) s = .next t
        ∧ t.rx = emptied number first false (if s.rx.state = .insync then .receiving else s.rx.state)
        ∧ t.map = 0 ∧ t.mem = { s.mem with outstanding := unowned }
        ∧ t.link = { g.link.returned frames with
          control := if number ≠ s.rx.held ∨ s.rx.state = .insync then controlAdd .hello s.link.control
            else s.link.control }
        ∧ t.mgmt = (if s.rx.state = .insync then s.mgmt.raise s.cfg.eventMask .insyncLeave else s.mgmt)
        ∧ s.changesOnly t [.mem, .map, .rx, .link, .mgmt]))
    -- RESUME
    ∧ (∀ number next : Seq, exec (.resumeFrame number next) s = .next
        (if number = s.rx.held ∧ s.rx.held ≠ 0 ∧ active then
          { answered (.resumeAck s.rx.held) with rx.seen := next, rx.discard := false }
        else answered (.resumeRefuse s.rx.held)))
    -- ABANDON
    ∧ (∀ reason : Byte, 14 < reason.toNat → exec (.abandon reason) s = .next g)
    ∧ (∀ reason : Byte, reason.toNat ≤ 14 →
      (s.rx.state = .live ∨ s.rx.state = .idle ∧ s.rx.held = 0 → exec (.abandon reason) s = .next g)
      ∧ (active ∨ s.rx.state = .idle ∧ s.rx.held ≠ 0 → ∃ t, exec (.abandon reason) s = .next t
        ∧ t.rx = emptied 0 s.rx.seen s.rx.discard .idle ∧ t.map = 0
        ∧ t.mem = { s.mem with outstanding := unowned }
        ∧ t.link = { g.link.returned frames with
          control := if s.rx.held ≠ 0 ∨ s.rx.state ≠ .idle then controlAdd .hello s.link.control
            else s.link.control }
        ∧ t.mgmt = (if s.rx.state = .insync then s.mgmt.raise s.cfg.eventMask .insyncLeave else s.mgmt)
        ∧ s.changesOnly t [.mem, .map, .rx, .link, .mgmt]))
    -- ordered frames
    ∧ (∀ (seq : Seq) (body : OrderedBody),
      let a := { g with rx.arrived := s.rx.arrived + 1 }
      (s.rx.held = 0 ∨ s.rx.discard = true →
        exec (.orderedFrameArrival seq body) s = .next { a with link := g.link.returned 1 })
      ∧ (s.rx.held ≠ 0 → s.rx.discard = false → seq = s.rx.seen → frames < 128 →
        exec (.orderedFrameArrival seq body) s = .next
          { a with rx.buffer := s.rx.buffer ++ [.frame seq body], rx.seen := s.rx.seen + 1 })
      ∧ (s.rx.held ≠ 0 → s.rx.discard = false → seq ≠ s.rx.seen ∨ 128 ≤ frames →
        exec (.orderedFrameArrival seq body) s = .next
          { a with link := (g.link.returned 1).reported (.gap s.rx.seen), rx.discard := true }))
    -- RESYNC
    ∧ ∀ number total : Seq, ∃ lost, lost = total - s.rx.arrived - s.rx.lossCredited ∧
      let c := if 1 ≤ lost.toNat ∧ lost.toNat ≤ 128 then
          { g with link := g.link.returned lost.toNat, rx.lossCredited := s.rx.lossCredited + lost } else g
      let n := { c with rx.seen := number, rx.discard := false }
      exec (.resync number total) s = .next
        (if s.rx.held = 0 then n else { n with rx.buffer := s.rx.buffer ++ [.marker number] })

/-- R158 to R160, R173, R184: the applier in RECEIVING and INSYNC takes a frame that may write or read. The frame leaves the
buffer with its credit. A TILE_CHUNK has eight writes to issue and moves the assembly; a MIRROR has one where its tile is
valid, unquarantined and COPY or LATE, a DIGEST 512 reads where its tile is valid, unquarantined and COPY; elsewhere each is
applied at once with its report, and one with a field outside its range is applied with no effect. That the assembly moves, and
an out-of-sequence chunk clears the valid bit, as the frame is taken is the model's reading (notes/assumptions/35.md), as are
the next chunk of the broken assembly that such a chunk makes (notes/assumptions/51.md) and the policy of a tile that records
of a plan share (notes/assumptions/54.md); a MIRROR's mask is not among the fields judged (notes/assumptions/24.md). -/
def Obligations.ApplierTakesTransfers : Prop :=
  ∀ (seq : Seq) (body : OrderedBody) (rest : List RxItem) (s : State),
    s.mgmt.role = .receiver → s.link.state = .up ∨ s.link.state = .cooldown → s.rx.applying = none →
    s.rx.buffer = .frame seq body :: rest → s.link.reports.length + 3 ≤ 64 →
    s.rx.state = .receiving ∨ s.rx.state = .insync →
    let taken := { s with rx.buffer := rest, link := s.link.returned 1 }
    let begun := fun (u : State) (n : Nat) => { u with rx.applying := some { Applying.start seq body with total := n } }
    (∀ tile chunk data, body = .tileChunk tile chunk data →
      let t := tile.toNat
      let c := chunk.toNat
      (131072 ≤ t ∨ 64 ≤ c → exec .applierTake s = .next (taken.appliedNow seq none))
      ∧ (t < 131072 → c = 0 → exec .applierTake s = .next
        (begun { taken with rx.assembly := some ⟨t, 1, false⟩, map := clearBit s.map t } 8))
      ∧ (t < 131072 → c < 64 → c ≠ 0 →
        (∀ broken, s.rx.assembly = some ⟨t, c, broken⟩ → exec .applierTake s = .next
          (begun { taken with rx.assembly := some ⟨t, c + 1, broken⟩ } 8))
        ∧ ((∀ broken, s.rx.assembly ≠ some ⟨t, c, broken⟩) → exec .applierTake s = .next
          (begun { taken with rx.assembly := some ⟨t, c + 1, true⟩, map := clearBit s.map t } 8))))
    ∧ (∀ addr line mask data, body = .mirror addr line mask data →
      let t := tileOf addr
      let aligned := addr.toNat % (if line then 64 else 16) = 0
      let applies := (s.tables.policyAt t = .copy ∨ s.tables.policyAt t = .late) ∧ s.bit t = true ∧ t ∉ s.rx.quarantine
      (¬ aligned → exec .applierTake s = .next (taken.appliedNow seq none))
      ∧ (aligned → applies → exec .applierTake s = .next (begun taken 1))
      ∧ (aligned → ¬ applies → exec .applierTake s = .next
        (taken.appliedNow seq (some (.faulted seq (BitVec.ofNat 32 t))))))
    ∧ ∀ tile value, body = .digest tile value →
      let t := tile.toNat
      let applies := s.tables.policyAt t = .copy ∧ s.bit t = true ∧ t ∉ s.rx.quarantine
      (131072 ≤ t → exec .applierTake s = .next (taken.appliedNow seq none))
      ∧ (t < 131072 → applies → exec .applierTake s = .next (begun taken 512))
      ∧ (t < 131072 → ¬ applies → exec .applierTake s = .next
        (taken.appliedNow seq (some (.digestResult seq tile 1))))

/-- R36, R37, R151, R152, R157, R158, R161, R162, R165, R184: the applier takes a mark or a plan frame; the applier reaches
markers alone; and the demand wait expires. The model's reading: an install abandons the outstanding writes of the fill it
replaces (notes/assumptions/38.md), a PLAN record's tile count is judged at PLAN_END alone (notes/assumptions/24.md), the
markers are reached at APPLIER_TAKE (notes/assumptions/36.md), ABANDON_TILE clears the bit of the assembly's tile and of no
other (notes/assumptions/59.md), and a tile that records of a plan share counts at an install under the policy of each
(notes/assumptions/54.md). R138: with the link in UP or COOLDOWN a frame waits while the report list is full, and one that may
hand a report of its own while it has one place left; that a waiting APPLIED, which the frame's own would remove, gives it no
room is the model's reading (notes/assumptions/34.md). -/
def Obligations.ApplierTakesMarks : Prop :=
  (∀ (seq : Seq) (body : OrderedBody) (rest : List RxItem) (s : State),
    s.mgmt.role = .receiver → s.link.state = .up ∨ s.link.state = .cooldown → s.rx.applying = none →
    s.rx.buffer = .frame seq body :: rest → s.link.reports.length + 3 ≤ 64 →
    let taken := { s with rx.buffer := rest, link := s.link.returned 1 }
    let plain := exec .applierTake s = .next (taken.appliedNow seq none)
    let active := s.rx.state = .receiving ∨ s.rx.state = .insync
    let moved := fun (st : ReceiverState) (e : Event) =>
      { taken with
        rx.state := st
        link.control := controlAdd .hello s.link.control
        mgmt := s.mgmt.raise s.cfg.eventMask e }
    (s.rx.state = .live → plain)
    ∧ (s.rx.state = .idle → body ≠ .planEnd → (∀ r b c p e, body ≠ .plan r b c p e) → plain)
    ∧ (body = .syncMark → active →
      (s.rx.state = .receiving → s.rx.fill = .complete →
        exec .applierTake s = .next ((moved .insync .insyncEnter).appliedNow seq none))
      ∧ (s.rx.state = .receiving → s.rx.fill ≠ .complete →
        exec .applierTake s = .next (State.appliedNow { taken with rx.syncPending := true } seq none))
      ∧ (s.rx.state = .insync → plain))
    ∧ (body = .unsyncMark → active →
      (s.rx.state = .insync → exec .applierTake s = .next ((moved .receiving .insyncLeave).appliedNow seq none))
      ∧ (s.rx.state = .receiving →
        exec .applierTake s = .next (State.appliedNow { taken with rx.syncPending := false } seq none)))
    ∧ (∀ tile, body = .quarantine tile → active →
      (tile.toNat < 131072 → tile.toNat ∉ s.rx.quarantine → s.rx.quarantine.length < 16 →
        exec .applierTake s = .next (State.appliedNow
          { taken with
            rx.quarantine := s.rx.quarantine ++ [tile.toNat]
            rx.demands := s.rx.demands.filter fun d => d.tile != tile.toNat
            rx.expired := s.rx.expired.filter fun u => u != tile.toNat } seq none))
      ∧ (131072 ≤ tile.toNat ∨ tile.toNat ∈ s.rx.quarantine ∨ 16 ≤ s.rx.quarantine.length → plain))
    ∧ (∀ tile, body = .abandonTile tile → active →
      ((∃ n broken, s.rx.assembly = some ⟨tile.toNat, n, broken⟩) →
        exec .applierTake s = .next (State.appliedNow
          { taken with rx.assembly := none, map := clearBit s.map tile.toNat } seq none))
      ∧ ((∀ n broken, s.rx.assembly ≠ some ⟨tile.toNat, n, broken⟩) → plain))
    ∧ (body = .handover → active →
      (s.rx.fill ≠ .complete →
        exec .applierTake s = .next { taken with rx.applying := some (Applying.start seq body) })
      ∧ (s.rx.fill = .complete → exec .applierTake s = .next (State.appliedNow
        { taken with
          rx.state := .live
          rx.demands := []
          rx.expired := []
          link.control := controlAdd .hello s.link.control
          mgmt := if s.rx.state = .receiving then s.mgmt.raise s.cfg.eventMask .insyncEnter else s.mgmt } seq none)))
    ∧ (∀ region base count policy regionEnd, body = .plan region base count policy regionEnd → s.rx.state ≠ .live →
      (31 < region.toNat ∨ 131072 ≤ base.toNat ∨ 3 < policy.toNat ∨ 1 < regionEnd.toNat → plain)
      ∧ (region.toNat ≤ 31 → base.toNat < 131072 → policy.toNat ≤ 3 → regionEnd.toNat ≤ 1 → ∃ r : Region,
        r.base = base.toNat ∧ r.count = count.toNat ∧ r.policy.code = policy ∧ boolByte r.regionEnd = regionEnd
        ∧ exec .applierTake s = .next (State.appliedNow
          { taken with rx.planRecords :=
            if s.rx.planRecords.any fun q => q.1 == region.toNat then
              s.rx.planRecords.map fun q => if q.1 = region.toNat then (region.toNat, r) else q
            else s.rx.planRecords ++ [(region.toNat, r)] } seq none)))
    ∧ (body = .planEnd → s.rx.state ≠ .live →
      let plan := s.rx.planRecords
      let fits := ∀ r ∈ plan, 1 ≤ r.2.count ∧ r.2.base + r.2.count ≤ s.mgmt.size
      (¬ fits → exec .applierTake s = .next
        (State.appliedNow { taken with rx.planRecords := [] } seq (some (.planRefuse 1))))
      ∧ (fits → s.rx.syncPending = false → ∃ u, exec .applierTake s = .next (u.appliedNow seq (some (.planAck s.rx.held)))
        ∧ u.tables = { s.tables with regions := u.tables.regions }
        ∧ (∀ n : Fin 32, u.tables.regions[n] = (plan.find? fun r => r.1 == n.val).map fun r => r.2)
        ∧ u.rx = { taken.rx with state := .receiving, planRecords := [], fill := u.rx.fill }
        ∧ (s.rx.state = .idle → u.map = s.map)
        ∧ (active → ∀ tile, u.bit tile = (s.bit tile && [Policy.copy, .late, .zero].any fun p =>
          (s.tables.regions.toList.any fun e => match e with
            | some r => r.policy == p && r.has tile
            | none => false)
          && plan.any fun r => r.2.policy == p && r.2.has tile))
        ∧ (u.rx.fill = .complete ↔ ∀ tile < 131072, (∃ r ∈ plan, r.2.policy = .zero ∧ r.2.has tile = true) → u.bit tile = true)
        ∧ (∀ q, u.rx.fill = .running q → q.issued = 0 ∧ q.done = 0 ∧ u.bit q.tile = false
          ∧ ∃ r ∈ plan, r.2.policy = .zero ∧ r.2.has q.tile = true)
        ∧ (∀ x ∈ u.mem.outstanding, ∀ t l, x.owner ≠ .fill t l)
        ∧ u.link.reports = taken.link.reports
        ∧ u.mgmt = (if s.rx.state = .insync then s.mgmt.raise s.cfg.eventMask .insyncLeave else s.mgmt)
        ∧ s.changesOnly u [.mem, .tables, .map, .rx, .link, .mgmt])))
  ∧ (∀ s : State, s.mgmt.role = .receiver → s.rx.applying = none → s.rx.buffer ≠ [] →
    (∀ x ∈ s.rx.buffer, x.isFrame = false) → exec .applierTake s = .next { s with rx.assembly := none, rx.buffer := [] })
  ∧ (∀ (seq : Seq) (body : OrderedBody) (rest : List RxItem) (s : State),
    s.mgmt.role = .receiver → s.link.state = .up ∨ s.link.state = .cooldown → s.rx.buffer = .frame seq body :: rest →
    let reports := body = .planEnd ∨ (∃ tile chunk data, body = .tileChunk tile chunk data)
      ∨ (∃ addr line mask data, body = .mirror addr line mask data) ∨ ∃ tile value, body = .digest tile value
    64 ≤ s.link.reports.length ∨ 63 ≤ s.link.reports.length ∧ reports → exec .applierTake s = .next s)
  ∧ ∀ (tile : Nat) (s : State),
    ((∀ d ∈ s.rx.demands, d.tile ≠ tile) → exec (.demandWaitExpiry tile) s = .next s)
    ∧ ((∃ d ∈ s.rx.demands, d.tile = tile) → exec (.demandWaitExpiry tile) s = .next (State.latch
      { s with
        rx.demands := s.rx.demands.filter fun d => d.tile != tile
        rx.expired := (if s.rx.expired.length < 8 then s.rx.expired else s.rx.expired.drop 1) ++ [tile] } .demandTimeout))

/-! ### The link (chapter 8) and the resets -/

/-- R102, R115, R116, R124, R137 to R140, R142, R157: the transmitter. A sender sends the oldest frame of the control list,
else in UP a waiting RESYNC, else with a credit the resync mark or the next frame of the queue if it is ready, else a KEEPALIVE
that is due; a receiver a HELLO, else the oldest report, else a KEEPALIVE. A frame of a TILE or DIGEST entry leaves its number
in the in-flight entry (R102, R170). A frame that is raised takes the place of one of its kind in the control list, else it
joins at the end (R137). That a frame raised before an ABANDON leaves ahead of its copies (notes/assumptions/47.md), and that a
receiver's KEEPALIVE leaves behind the reports that wait (notes/assumptions/52.md), is the model's reading. -/
def Obligations.Transmit : Prop :=
  (∀ (c : Control) (l : List Control),
    ((∀ d ∈ l, c.sameKind d = false) → controlAdd c l = l ++ [c])
    ∧ ∀ before d after, l = before ++ d :: after → c.sameKind d = true → (∀ e ∈ before ++ after, c.sameKind e = false) →
      controlAdd c l = before ++ c :: after)
  ∧ (∀ c d : Control, c.sameKind d = true ↔ c = .hello ∧ d = .hello
    ∨ (∃ n i f m j g, c = .beginCampaign n i f ∧ d = .beginCampaign m j g)
    ∨ (∃ n f m g, c = .resume n f ∧ d = .resume m g) ∨ ∃ r k q l, c = .abandon r k ∧ d = .abandon q l)
  ∧ ∀ s : State,
    let isOpen := s.link.state = .up ∨ s.link.state = .cooldown
    let out := fun (u : State) (f : Frame) =>
      { u with link.linkOut := s.link.linkOut ++ [f], link.keepaliveDue := false }
    let record := fun (entry : Option Nat) (index : Nat) =>
      s.txq.record ++ [({ seq := s.txq.nextSeq, entry := entry, index := index } : SentItem)]
    -- the control list
    (∀ rest, s.link.control = .hello :: rest → (∀ c ∈ rest, c.sameKind .hello = false) →
      isOpen ∨ s.link.state = .blanking → exec .transmit s = .next (out { s with link.control := rest } (.hello
        { role := s.mgmt.role.code
          identity := s.mgmt.identity
          size := BitVec.ofNat 32 s.mgmt.size
          number := if s.mgmt.role = .sender then s.camp.number else s.rx.held
          state := if s.mgmt.role = .sender then s.camp.state.code else s.rx.state.code
          total := if s.mgmt.role = .sender then 0 else s.link.creditTotal })))
    ∧ (isOpen →
      (∀ number identity first rest, s.link.control = .beginCampaign number identity first :: rest →
        (∀ c ∈ rest, c.sameKind (.beginCampaign number identity first) = false) →
        exec .transmit s = .next (out { s with link.control := rest } (.beginCampaign number identity s.txq.nextSeq)))
      ∧ (∀ number next rest, s.link.control = .resume number next :: rest →
        (∀ c ∈ rest, c.sameKind (.resume number next) = false) →
        exec .transmit s = .next (out { s with link.control := rest } (.resume number s.txq.nextSeq)))
      ∧ (∀ reason k rest, s.link.control = .abandon reason (k + 1) :: rest →
        (∀ c ∈ rest, c.sameKind (.abandon reason k) = false) → exec .transmit s = .next
          (out { s with link.control := if k = 0 then rest else .abandon reason k :: rest } (.abandon reason.code))))
    ∧ (s.link.control = [] → s.mgmt.role = .sender →
      (∀ number, s.link.state = .up → s.txq.resync = some number → exec .transmit s = .next
        (out { s with txq.resync := none } (.resync number s.link.sentTotal)))
      ∧ (s.link.state = .up → s.txq.resync = none → 0 < s.txq.credits →
        (∀ sync, s.txq.resyncMark = some sync → exec .transmit s = .next
          (out
            { s with
              txq := { s.txq with
                resyncMark := none
                record := record none 0
                nextSeq := s.txq.nextSeq + 1
                credits := s.txq.credits - 1 }
              link.sentTotal := s.link.sentTotal + 1 }
            (.ordered s.txq.nextSeq (if sync then .syncMark else .unsyncMark))))
        ∧ ∀ before e after body, s.txq.resyncMark = none → s.txq.queue = before ++ e :: after →
          (∀ q ∈ before, q.body.frames ≤ q.sent) → e.sent < e.body.frames → s.readyFrame e.body e.sent = some body →
          ∃ t, exec .transmit s = .next t
            ∧ t.txq = { s.txq with
                record := record (some e.id) e.sent
                nextSeq := s.txq.nextSeq + 1
                credits := s.txq.credits - 1
                queue := s.txq.queue.map fun q => if q.id = e.id then { q with sent := q.sent + 1 } else q }
            ∧ t.link = { s.link with
                sentTotal := s.link.sentTotal + 1
                linkOut := s.link.linkOut ++ [.ordered s.txq.nextSeq body]
                keepaliveDue := false }
            ∧ ((∀ n v, e.body ≠ .tile n ∧ e.body ≠ .digest n v) → t.eng = s.eng)
            ∧ (∀ f ∈ s.eng.inFlight, e.body = .tile f.tile → f.kind = .copy →
              { f with
                firstSeq := if e.sent = 0 then some s.txq.nextSeq else f.firstSeq
                lastSeq := if e.sent = 63 then some s.txq.nextSeq else f.lastSeq } ∈ t.eng.inFlight)
            ∧ (∀ f ∈ s.eng.inFlight, ∀ v, e.body = .digest f.tile v → f.kind = .audit → f.lastSeq = none →
              { f with firstSeq := some s.txq.nextSeq, lastSeq := some s.txq.nextSeq } ∈ t.eng.inFlight)
            ∧ t.camp = { s.camp with handoverSent := s.camp.handoverSent || e.body == .handover }
            ∧ s.changesOnly t [.txq, .link, .eng, .camp])
      ∧ (s.link.state = .cooldown ∨ s.link.state = .up ∧ s.txq.resync = none ∧ (s.txq.credits = 0
            ∨ s.txq.resyncMark = none ∧ ((∀ q ∈ s.txq.queue, q.body.frames ≤ q.sent)
              ∨ ∃ before e after, s.txq.queue = before ++ e :: after ∧ (∀ q ∈ before, q.body.frames ≤ q.sent)
                ∧ e.sent < e.body.frames ∧ s.readyFrame e.body e.sent = none)) →
        exec .transmit s = .next (if s.link.keepaliveDue then out s (.keepalive 0) else s)))
    ∧ (s.link.control = [] → s.mgmt.role = .receiver → isOpen →
      (∀ r rest, s.link.reports = r :: rest → s.rx.applying = none → exec .transmit s = .next
        (out
          { s with
            link.reports := rest
            link.creditTotal := match r with
              | .credit n => s.link.creditTotal + BitVec.ofNat 16 n.toNat
              | _ => s.link.creditTotal } (.report r)))
      ∧ (s.link.reports = [] →
        exec .transmit s = .next (if s.link.keepaliveDue then out s (.keepalive s.link.creditTotal) else s)))
    ∧ (s.link.state = .down ∨ s.link.state = .training → exec .transmit s = .next s)
    -- what makes a frame ready
    ∧ (∀ tag ready addr line mask data, s.readyFrame (.mirror tag ready addr line mask data) 0 =
        if ready then some (.mirror addr line mask data) else none)
    ∧ (∀ tile n, (s.readyFrame (.tile tile) n).isSome = true ↔ ∃ e,
        (s.eng.inFlight.find? fun e => e.tile == tile && e.kind == .copy) = some e
          ∧ ∀ j < 8, ∃ p ∈ e.buffer, p.1 = n * 8 + j)

/-- R76, R77, R130 to R132, R134, R139 to R141: what the transmit lanes carry, how the link comes up, and the timers that make
frames due. The quiet time's end, the lanes' signal, the end of training, of the blanking time and of the off-time each act in
their own state alone. A STALLED sender whose peer's HELLO is stored as the link enters UP takes the relink decision then
(R76). A departure noted in COOLDOWN that the stored HELLO still reports takes the link DOWN at the return to UP, as a loss of
it does (R141). That TRAINING is entered at the last of R130's conditions to hold, and LANE_SIGNAL names
both lanes, is the model's reading (notes/assumptions/20.md). -/
def Obligations.LinkComesUp : Prop :=
  ∀ s : State,
    let isOpen := s.link.state = .up ∨ s.link.state = .cooldown
    let trains := fun (u : State) => if u.link.state = .down ∧ u.cfg.linkEnable = true ∧ u.link.quiet = none
        ∧ u.link.signal0 = true ∧ u.link.signal1 = true ∧ u.mgmt.inReset = false then
      { u with link.state := .training, link.silence := some 5000 } else u
    let waits := s.mgmt.role = .sender ∧ s.camp.state = .stalled ∧ s.camp.peerWait ≠ none ∧ s.link.peer ≠ none
    let up := fun (u : State) =>
      { u with
        link := { u.link with
          state := .up
          blanking := none
          hello := some 100000
          creditTotal := 0
          creditTaken := 0
          sentTotal := 0
          control := controlAdd .hello s.link.control }
        txq.credits := 128
        rx.arrived := 0
        rx.lossCredited := 0 }
    let greeted := fun (u : State) (body : HelloBody) =>
      { u with link.linkOut := s.link.linkOut ++ [.hello body], link.keepaliveDue := false }
    (s.lanes = .pattern ↔ s.mgmt.inReset = false ∧ (s.link.state = .training
        ∨ s.link.state = .down ∧ s.cfg.linkEnable = true ∧ s.link.quiet = none))
    ∧ (s.lanes = .frames ↔ s.mgmt.inReset = false ∧ s.link.state ∈ [LinkState.blanking, .up, .cooldown])
    ∧ exec .quietTimeExpiry s = .next (if s.link.quiet = none then s else trains { s with link.quiet := none })
    ∧ exec .laneSignal s = .next (trains { s with link.signal0 := true, link.signal1 := true })
    ∧ (s.link.state ≠ .training → exec .trained s = .next s)
    ∧ (s.link.state = .training → s.cfg.blanking ≠ .ms0 → exec .trained s = .next
      { s with
        link.state := .blanking
        link.blanking := some (match s.cfg.blanking with
          | .ms0 => 0
          | .ms10 => 10000
          | .ms50 => 50000
          | .ms200 => 200000)
        link.control := controlAdd .hello s.link.control })
    ∧ (s.link.state = .training → s.cfg.blanking = .ms0 → ¬ waits → ∃ body, body.state =
        (if s.mgmt.role = .sender then s.camp.state.code else s.rx.state.code) ∧ exec .trained s = .next
      (up (greeted s body)))
    ∧ (s.link.state = .training → s.cfg.blanking = .ms0 → waits → ∀ p, s.link.peer = some p →
      ∃ body t, exec .trained s = .next t ∧ (up (greeted s body)).relinkedFor t p ∧ t.link.state = .up ∧ t.txq.credits = 128)
    ∧ (s.link.state ≠ .blanking ∨ s.link.blanking = none → exec .blankingEnd s = .next s)
    ∧ (s.link.state = .blanking → s.link.blanking ≠ none → ¬ waits → exec .blankingEnd s = .next (up s))
    ∧ (s.link.state = .blanking → s.link.blanking ≠ none → waits → ∀ p, s.link.peer = some p →
      ∃ t, exec .blankingEnd s = .next t ∧ (up s).relinkedFor t p ∧ t.link.state = .up ∧ t.txq.credits = 128)
    ∧ (s.link.state ≠ .cooldown ∨ s.link.offTime = none → exec .offTimeEnd s = .next s)
    ∧ (s.link.state = .cooldown → s.link.offTime ≠ none →
      let back := { s with
        link := { s.link with
          state := .up
          offTime := none
          departure := false
          control := controlAdd .hello s.link.control } }
      (s.link.departure = false ∨ (∀ p, s.link.peer = some p → s.departs p = false) → exec .offTimeEnd s = .next back)
      ∧ (s.link.departure = true → (∃ p, s.link.peer = some p ∧ s.departs p = true) → s.link.silence ≠ none →
        exec .offTimeEnd s = exec .silenceExpiry back))
    ∧ exec .keepaliveDue s = .next (if isOpen then { s with link.keepaliveDue := true } else s)
    ∧ exec .helloTimerExpiry s = .next (if isOpen ∧ s.link.hello ≠ none then
        { s with link.control := controlAdd .hello s.link.control } else s)
    ∧ exec .blankingHelloTimer s = .next (if s.link.state = .blanking then
        { s with link.control := controlAdd .hello s.link.control } else s)

/-- R75, R76, R119, R126, R129, R131, R155, R157: loss of signal and silence. The link enters DOWN with its lists, credits and
totals empty. From UP and COOLDOWN LINK_LOST is latched: a sender's campaign in SWEEP, SETTLE, MIRROR, AUDIT, DELAY, FREEZE or
INSYNC, and in DRAIN before HANDOVER is sent (R72), enters STALLED under AUTO, with every tile in flight or with a MIRROR in
the queue dirty and an unfinished audit pass's mismatch count dropped (R172), and ends under LATCHED; in PLAN it ends, and in
ENDING with the reason recorded; in STALLED a resume wait is given up for the peer wait (R77). A receiver drops its buffer and
assembly and keeps its campaign and its valid bits; a frame in application goes on and hands no report. That it issues what it
has not issued (notes/assumptions/37.md), and is applied at once where it only waited for room in the report list
(notes/assumptions/34.md), is the model's reading, as is that a dropped mismatch count is set to 0 (notes/assumptions/49.md)
and that the plan under construction, the sync pending flag, the seen point and the discard flag are kept
(notes/assumptions/61.md). -/
def Obligations.LinkLossStalls : Prop :=
  ∀ (c : Instr) (s : State),
    (c = .silenceExpiry ∧ s.link.silence = none → exec c s = .next s)
    ∧ (∀ lane : Fin 2, c = .lossOfSignal lane → s.link.state = .down → exec c s = .next
      { s with
        link.signal0 := s.link.signal0 && lane != 0
        link.signal1 := s.link.signal1 && lane != 1 })
    ∧ (c = .silenceExpiry ∧ s.link.silence ≠ none ∨ (∃ lane, c = .lossOfSignal lane) ∧ s.link.state ≠ .down →
      ∃ t, exec c s = .next t
        ∧ t.link = { Link.reset with
            signal0 := s.link.signal0 && c != .lossOfSignal 0
            signal1 := s.link.signal1 && c != .lossOfSignal 1
            linkOut := s.link.linkOut }
        ∧ t.txq.credits = 0 ∧ t.rx.arrived = 0 ∧ t.rx.lossCredited = 0
        ∧ (s.link.state ∉ [LinkState.up, .cooldown] → s.changesOnly t [.link, .txq, .rx]
          ∧ t.txq = { s.txq with credits := 0 } ∧ t.rx = { s.rx with arrived := 0, lossCredited := 0 })
        ∧ (s.link.state ∈ [LinkState.up, .cooldown] → t.latched .linkLost = true
          ∧ (s.mgmt.role = .sender → s.camp.state ∈ [SenderState.idle, .armed, .handedOver] →
            t.camp = s.camp ∧ t.map = s.map)
          ∧ (s.mgmt.role = .sender →
            s.camp.state ∈ [SenderState.delay, .sweep, .settle, .mirror, .audit, .insync, .freeze]
              ∨ s.camp.state = .drain ∧ s.camp.handoverSent = false →
            (s.cfg.relink = .auto → t.camp.state = .stalled ∧ t.camp.stalledFrom = s.camp.state
              ∧ t.camp.number = s.camp.number ∧ t.camp.peerWait = some (s.cfg.peerWait * 1000000)
              ∧ t.txq.queue = [] ∧ t.txq.backlog = [] ∧ t.txq.record = [] ∧ t.txq.nextSeq = s.txq.nextSeq
              ∧ t.eng.inFlight = [] ∧ t.eng.demandQueue = [] ∧ t.mem.holdList = []
              ∧ t.mon.regionHold = none ∧ t.mon.drainHold = false
              ∧ t.mem.queue = s.mem.queue ++ s.mem.holdList ∧ t.camp.exit = s.camp.exit
              ∧ t.aud = { s.aud with mismatch := 0 }
              ∧ (∀ tile, s.bit tile = true → t.bit tile = true)
              ∧ (∀ e ∈ s.eng.inFlight, e.tile < 131072 → t.bit e.tile = true)
              ∧ (∀ e ∈ s.txq.queue, ∀ tag r addr l m d, e.body = .mirror tag r addr l m d → t.bit (tileOf addr) = true))
            ∧ (s.cfg.relink = .latched → t.camp.state = .idle ∧ t.camp.exit.reason = .linkLost
              ∧ t.camp.exit.number = s.camp.number ∧ t.map = 0))
          ∧ (s.mgmt.role = .sender → s.camp.state = .plan → t.camp.state = .idle ∧ t.camp.exit.reason = .linkLost)
          ∧ (s.mgmt.role = .sender → s.camp.state = .ending → t.camp.state = .idle
            ∧ t.camp.exit.reason = s.camp.endReason ∧ t.mem.holdList = [] ∧ t.eng.inFlight = [])
          ∧ (s.mgmt.role = .sender → s.camp.state = .stalled → t.camp =
            (if s.camp.resumeWait = none then s.camp else
              { s.camp with
                resumeWait := none
                resumeRepeat := none
                peerWait := some (s.cfg.peerWait * 1000000) })
            ∧ s.changesOnly t [.camp, .link, .txq, .rx, .mgmt])
          ∧ (s.mgmt.role = .sender → s.camp.state = .drain → s.camp.handoverSent = true →
            t.camp.state = .handedOver ∧ t.camp.exit.reason = .handoverUnconfirmed)
          ∧ (s.mgmt.role = .receiver →
            (∀ a, s.rx.applying = some a → a.done < a.total ∨ a.body = .handover ∧ s.rx.fill ≠ .complete
              ∧ (s.rx.state = .receiving ∨ s.rx.state = .insync)) →
            t.rx = { s.rx with
              applying := s.rx.applying.map fun a => { a with silent := true }
              buffer := []
              assembly := none
              appliedCount := 0
              arrived := 0
              lossCredited := 0 }
            ∧ s.changesOnly t [.link, .txq, .rx, .mgmt])
          ∧ (s.mgmt.role = .receiver → ∀ a, s.rx.applying = some a → a.total ≤ a.done → a.body ≠ .handover →
            t.rx.applying = none ∧ t.rx.buffer = [] ∧ t.rx.appliedCount = 1 ∧ t.link.reports = []
              ∧ s.changesOnly t [.link, .txq, .rx, .mgmt])))

/-- R18, R19, R25, R29, R35, R54, R80, R81, R112, R128, R147, R166, R174 to R177, R179, R180, R183: the resets. POWER_ON and
a warm reset leave what their columns give, and the model's choices where these say nothing: POWER_ON is one step that leaves
the part out of reset with its straps latched (notes/assumptions/14.md), pin levels and the traces of what the ports have given
are kept (notes/assumptions/12.md), the values left open are those of State.reset (notes/assumptions/15.md), and the quiet timer
runs (notes/assumptions/16.md); that no training begins while the part is in reset, and that RESET_N_HIGH begins it where R130's
conditions hold, is the model's reading (notes/assumptions/13.md); a warm reset keeps the region table, the banks, the role,
the identity, the size, the settings and the exit record, which it writes for a running campaign other than in HANDED_OVER, and
holds the part in reset until RESET_N is high. A soft reset keeps these and the link, forwards the held transfers and abandons
the internal ones; that its HELLO is raised in UP, COOLDOWN and BLANKING alone is the model's reading
(notes/assumptions/32.md). -/
def Obligations.Resets : Prop :=
  ∀ s : State,
    let ran := s.mgmt.role = .sender ∧ s.camp.state ∉ [SenderState.idle, .armed, .handedOver]
    let exitAfter := fun (reason : ExitReason) =>
      if ran then
        ⟨reason, s.camp.number, s.camp.passNumber, s.countD, s.countL, s.eng.faults.length, s.mon.degrade⟩
      else s.camp.exit
    let campAfter := fun (reason : ExitReason) =>
      { Campaign.reset with number := s.camp.number, exit := exitAfter reason }
    (∀ straps : BitVec 3, exec (.powerOn straps) s = .next
      { State.reset with
        mem := { MemoryPath.reset with nextId := s.mem.nextId, nearOut := s.mem.nearOut }
        link := { Link.reset with signal0 := s.link.signal0, signal1 := s.link.signal1, linkOut := s.link.linkOut }
        mgmt := { Management.reset with cue := s.mgmt.cue, pace := s.mgmt.pace, straps := straps }
        pending := s.pending })
    ∧ exec .warmReset s = .next
      { State.reset with
        mem := { MemoryPath.reset with nextId := s.mem.nextId, nearOut := s.mem.nearOut }
        tables := { s.tables with pending := none }
        camp := campAfter .warmReset
        conv := Convergence.reset s.cfg.share
        link := { Link.reset with signal0 := s.link.signal0, signal1 := s.link.signal1, linkOut := s.link.linkOut }
        mgmt := { s.mgmt with
          reply := ⟨.ok, []⟩
          latches := 0
          tally := Vector.replicate 6 0
          evt := .low
          inReset := true }
        cfg := s.cfg
        pending := s.pending }
    ∧ (s.mgmt.inReset = false → exec .resetNHigh s = .next s)
    ∧ (s.mgmt.inReset = true → exec .resetNHigh s = .next
      { s with
        mgmt.inReset := false
        link := if s.link.state = .down ∧ s.cfg.linkEnable = true ∧ s.link.quiet = none ∧ s.link.signal0 = true
            ∧ s.link.signal1 = true then
          { s.link with state := .training, silence := some 5000 } else s.link })
    ∧ (s.mgmt.inReset = false → ∃ t, exec .softReset s = .next t
      ∧ t.camp = campAfter .softReset
      ∧ t.rx = { Receiver.reset with arrived := s.rx.arrived, lossCredited := s.rx.lossCredited }
      ∧ t.map = 0 ∧ t.tables = { s.tables with pending := none } ∧ t.cfg = s.cfg
      ∧ t.conv = Convergence.reset s.cfg.share ∧ t.eng = CopyEngine.reset ∧ t.aud = Audit.reset
      ∧ t.txq = { s.txq with queue := [], backlog := [], record := [], resync := none, resyncMark := none }
      ∧ t.mem = { s.mem with
          queue := s.mem.queue ++ s.mem.holdList
          holdList := []
          frameGrants := 0
          outstanding := s.mem.outstanding.map fun x => match x.owner with
            | .pass _ => x
            | .copy _ _ | .apply _ | .fill _ _ | .abandoned => { x with owner := .abandoned } }
      ∧ t.mon.passage = s.mon.passage ++ s.mem.holdList.map (fun x => ⟨x.tag, x.kind, tileOf x.addr⟩)
      ∧ t.mon.regionHold = none ∧ t.mon.drainHold = false ∧ t.mon.stall = .stopped ∧ t.mon.degrade = 0
      ∧ t.mgmt = { s.mgmt with
          reply := ⟨.ok, []⟩
          latches := 0
          tally := Vector.replicate 6 0
          evt := .low }
      ∧ t.link.state = s.link.state ∧ t.link.peer = s.link.peer ∧ t.link.creditTaken = s.link.creditTaken
      ∧ t.link.sentTotal = s.link.sentTotal ∧ t.pending = s.pending
      ∧ (s.link.state ∈ [LinkState.up, .cooldown, .blanking] → Control.hello ∈ t.link.control)
      ∧ (ran → s.link.state = .up → t.link.control = [.abandon .softReset 3, .hello])
      ∧ (s.link.state ∈ [LinkState.up, .cooldown] →
        t.link.reports = (if (s.rx.buffer.filter RxItem.isFrame).length = 0 then []
          else [.credit (BitVec.ofNat 8 (min 128 (s.rx.buffer.filter RxItem.isFrame).length))])))
end

