-- ==== Sys2Proof/Laws/State.lean ====
section
/-! SUPPORT. What each record update of the shared operations does to each block of the state: one lemma for a block and an
operation, true by unfolding, so that no later proof unfolds an update. -/

namespace Sys2Proof.Machine

variable (s : State)

@[simp] theorem State.latch_mem (l : Latch) : (s.latch l).mem = s.mem := rfl
@[simp] theorem State.latch_mon (l : Latch) : (s.latch l).mon = s.mon := rfl
@[simp] theorem State.latch_tables (l : Latch) : (s.latch l).tables = s.tables := rfl
@[simp] theorem State.latch_map (l : Latch) : (s.latch l).map = s.map := rfl
@[simp] theorem State.latch_camp (l : Latch) : (s.latch l).camp = s.camp := rfl
@[simp] theorem State.latch_conv (l : Latch) : (s.latch l).conv = s.conv := rfl
@[simp] theorem State.latch_eng (l : Latch) : (s.latch l).eng = s.eng := rfl
@[simp] theorem State.latch_aud (l : Latch) : (s.latch l).aud = s.aud := rfl
@[simp] theorem State.latch_txq (l : Latch) : (s.latch l).txq = s.txq := rfl
@[simp] theorem State.latch_link (l : Latch) : (s.latch l).link = s.link := rfl
@[simp] theorem State.latch_rx (l : Latch) : (s.latch l).rx = s.rx := rfl
@[simp] theorem State.latch_mgmt (l : Latch) :
    (s.latch l).mgmt = { s.mgmt with latches := s.mgmt.latches ||| BitVec.twoPow 11 l.bit } := rfl
@[simp] theorem State.latch_cfg (l : Latch) : (s.latch l).cfg = s.cfg := rfl
@[simp] theorem State.latch_pending (l : Latch) : (s.latch l).pending = s.pending := rfl

@[simp] theorem State.raise_mem (e : Event) : (s.raise e).mem = s.mem := rfl
@[simp] theorem State.raise_mon (e : Event) : (s.raise e).mon = s.mon := rfl
@[simp] theorem State.raise_tables (e : Event) : (s.raise e).tables = s.tables := rfl
@[simp] theorem State.raise_map (e : Event) : (s.raise e).map = s.map := rfl
@[simp] theorem State.raise_camp (e : Event) : (s.raise e).camp = s.camp := rfl
@[simp] theorem State.raise_conv (e : Event) : (s.raise e).conv = s.conv := rfl
@[simp] theorem State.raise_eng (e : Event) : (s.raise e).eng = s.eng := rfl
@[simp] theorem State.raise_aud (e : Event) : (s.raise e).aud = s.aud := rfl
@[simp] theorem State.raise_txq (e : Event) : (s.raise e).txq = s.txq := rfl
@[simp] theorem State.raise_link (e : Event) : (s.raise e).link = s.link := rfl
@[simp] theorem State.raise_rx (e : Event) : (s.raise e).rx = s.rx := rfl
@[simp] theorem State.raise_mgmt (e : Event) : (s.raise e).mgmt = s.mgmt.raise s.cfg.eventMask e := rfl
@[simp] theorem State.raise_cfg (e : Event) : (s.raise e).cfg = s.cfg := rfl
@[simp] theorem State.raise_pending (e : Event) : (s.raise e).pending = s.pending := rfl

@[simp] theorem State.reply_mem (st : Status) (d : List Byte) : (s.reply st d).mem = s.mem := rfl
@[simp] theorem State.reply_mon (st : Status) (d : List Byte) : (s.reply st d).mon = s.mon := rfl
@[simp] theorem State.reply_tables (st : Status) (d : List Byte) : (s.reply st d).tables = s.tables := rfl
@[simp] theorem State.reply_map (st : Status) (d : List Byte) : (s.reply st d).map = s.map := rfl
@[simp] theorem State.reply_camp (st : Status) (d : List Byte) : (s.reply st d).camp = s.camp := rfl
@[simp] theorem State.reply_conv (st : Status) (d : List Byte) : (s.reply st d).conv = s.conv := rfl
@[simp] theorem State.reply_eng (st : Status) (d : List Byte) : (s.reply st d).eng = s.eng := rfl
@[simp] theorem State.reply_aud (st : Status) (d : List Byte) : (s.reply st d).aud = s.aud := rfl
@[simp] theorem State.reply_txq (st : Status) (d : List Byte) : (s.reply st d).txq = s.txq := rfl
@[simp] theorem State.reply_link (st : Status) (d : List Byte) : (s.reply st d).link = s.link := rfl
@[simp] theorem State.reply_rx (st : Status) (d : List Byte) : (s.reply st d).rx = s.rx := rfl
@[simp] theorem State.reply_mgmt (st : Status) (d : List Byte) :
    (s.reply st d).mgmt = { s.mgmt with reply := ⟨st, d⟩ } := rfl
@[simp] theorem State.reply_cfg (st : Status) (d : List Byte) : (s.reply st d).cfg = s.cfg := rfl
@[simp] theorem State.reply_pending (st : Status) (d : List Byte) : (s.reply st d).pending = s.pending := rfl

@[simp] theorem State.answer_mem (tag : Fin 16) (term : Term) :
    (s.answer tag term).mem = { s.mem with nearOut := s.mem.nearOut ++ [⟨tag, term⟩] } := rfl
@[simp] theorem State.answer_mon (tag : Fin 16) (term : Term) : (s.answer tag term).mon = s.mon := rfl
@[simp] theorem State.answer_tables (tag : Fin 16) (term : Term) : (s.answer tag term).tables = s.tables := rfl
@[simp] theorem State.answer_map (tag : Fin 16) (term : Term) : (s.answer tag term).map = s.map := rfl
@[simp] theorem State.answer_camp (tag : Fin 16) (term : Term) : (s.answer tag term).camp = s.camp := rfl
@[simp] theorem State.answer_conv (tag : Fin 16) (term : Term) : (s.answer tag term).conv = s.conv := rfl
@[simp] theorem State.answer_eng (tag : Fin 16) (term : Term) : (s.answer tag term).eng = s.eng := rfl
@[simp] theorem State.answer_aud (tag : Fin 16) (term : Term) : (s.answer tag term).aud = s.aud := rfl
@[simp] theorem State.answer_txq (tag : Fin 16) (term : Term) : (s.answer tag term).txq = s.txq := rfl
@[simp] theorem State.answer_link (tag : Fin 16) (term : Term) : (s.answer tag term).link = s.link := rfl
@[simp] theorem State.answer_rx (tag : Fin 16) (term : Term) : (s.answer tag term).rx = s.rx := rfl
@[simp] theorem State.answer_mgmt (tag : Fin 16) (term : Term) : (s.answer tag term).mgmt = s.mgmt := rfl
@[simp] theorem State.answer_cfg (tag : Fin 16) (term : Term) : (s.answer tag term).cfg = s.cfg := rfl
@[simp] theorem State.answer_pending (tag : Fin 16) (term : Term) : (s.answer tag term).pending = s.pending := rfl

@[simp] theorem State.setTag_mem (tag : Fin 16) (r : TagRecord) :
    (s.setTag tag r).mem = { s.mem with tags := s.mem.tags.set tag r } := rfl
@[simp] theorem State.setTag_mon (tag : Fin 16) (r : TagRecord) : (s.setTag tag r).mon = s.mon := rfl
@[simp] theorem State.setTag_tables (tag : Fin 16) (r : TagRecord) : (s.setTag tag r).tables = s.tables := rfl
@[simp] theorem State.setTag_map (tag : Fin 16) (r : TagRecord) : (s.setTag tag r).map = s.map := rfl
@[simp] theorem State.setTag_camp (tag : Fin 16) (r : TagRecord) : (s.setTag tag r).camp = s.camp := rfl
@[simp] theorem State.setTag_conv (tag : Fin 16) (r : TagRecord) : (s.setTag tag r).conv = s.conv := rfl
@[simp] theorem State.setTag_eng (tag : Fin 16) (r : TagRecord) : (s.setTag tag r).eng = s.eng := rfl
@[simp] theorem State.setTag_aud (tag : Fin 16) (r : TagRecord) : (s.setTag tag r).aud = s.aud := rfl
@[simp] theorem State.setTag_txq (tag : Fin 16) (r : TagRecord) : (s.setTag tag r).txq = s.txq := rfl
@[simp] theorem State.setTag_link (tag : Fin 16) (r : TagRecord) : (s.setTag tag r).link = s.link := rfl
@[simp] theorem State.setTag_rx (tag : Fin 16) (r : TagRecord) : (s.setTag tag r).rx = s.rx := rfl
@[simp] theorem State.setTag_mgmt (tag : Fin 16) (r : TagRecord) : (s.setTag tag r).mgmt = s.mgmt := rfl
@[simp] theorem State.setTag_cfg (tag : Fin 16) (r : TagRecord) : (s.setTag tag r).cfg = s.cfg := rfl
@[simp] theorem State.setTag_pending (tag : Fin 16) (r : TagRecord) : (s.setTag tag r).pending = s.pending := rfl

@[simp] theorem State.clearLock_mem (tag : Fin 16) :
    (s.clearLock tag).mem = { s.mem with tags := s.mem.tags.set tag ⟨s.mem.tags[tag].outstanding, none⟩ } := rfl
@[simp] theorem State.clearLock_mon (tag : Fin 16) : (s.clearLock tag).mon = s.mon := rfl
@[simp] theorem State.clearLock_tables (tag : Fin 16) : (s.clearLock tag).tables = s.tables := rfl
@[simp] theorem State.clearLock_map (tag : Fin 16) : (s.clearLock tag).map = s.map := rfl
@[simp] theorem State.clearLock_camp (tag : Fin 16) : (s.clearLock tag).camp = s.camp := rfl
@[simp] theorem State.clearLock_conv (tag : Fin 16) : (s.clearLock tag).conv = s.conv := rfl
@[simp] theorem State.clearLock_eng (tag : Fin 16) : (s.clearLock tag).eng = s.eng := rfl
@[simp] theorem State.clearLock_aud (tag : Fin 16) : (s.clearLock tag).aud = s.aud := rfl
@[simp] theorem State.clearLock_txq (tag : Fin 16) : (s.clearLock tag).txq = s.txq := rfl
@[simp] theorem State.clearLock_link (tag : Fin 16) : (s.clearLock tag).link = s.link := rfl
@[simp] theorem State.clearLock_rx (tag : Fin 16) : (s.clearLock tag).rx = s.rx := rfl
@[simp] theorem State.clearLock_mgmt (tag : Fin 16) : (s.clearLock tag).mgmt = s.mgmt := rfl
@[simp] theorem State.clearLock_cfg (tag : Fin 16) : (s.clearLock tag).cfg = s.cfg := rfl
@[simp] theorem State.clearLock_pending (tag : Fin 16) : (s.clearLock tag).pending = s.pending := rfl

@[simp] theorem State.forward_mem (x : Transfer) :
    (s.forward x).mem = { s.mem with queue := s.mem.queue ++ [x] } := rfl
@[simp] theorem State.forward_mon (x : Transfer) :
    (s.forward x).mon = { s.mon with passage := s.mon.passage ++ [⟨x.tag, x.kind, tileOf x.addr⟩] } := rfl
@[simp] theorem State.forward_tables (x : Transfer) : (s.forward x).tables = s.tables := rfl
@[simp] theorem State.forward_map (x : Transfer) : (s.forward x).map = s.map := rfl
@[simp] theorem State.forward_camp (x : Transfer) : (s.forward x).camp = s.camp := rfl
@[simp] theorem State.forward_conv (x : Transfer) : (s.forward x).conv = s.conv := rfl
@[simp] theorem State.forward_eng (x : Transfer) : (s.forward x).eng = s.eng := rfl
@[simp] theorem State.forward_aud (x : Transfer) : (s.forward x).aud = s.aud := rfl
@[simp] theorem State.forward_txq (x : Transfer) : (s.forward x).txq = s.txq := rfl
@[simp] theorem State.forward_link (x : Transfer) : (s.forward x).link = s.link := rfl
@[simp] theorem State.forward_rx (x : Transfer) : (s.forward x).rx = s.rx := rfl
@[simp] theorem State.forward_mgmt (x : Transfer) : (s.forward x).mgmt = s.mgmt := rfl
@[simp] theorem State.forward_cfg (x : Transfer) : (s.forward x).cfg = s.cfg := rfl
@[simp] theorem State.forward_pending (x : Transfer) : (s.forward x).pending = s.pending := rfl

@[simp] theorem State.issue_mem (o : Owner) (k : XferKind) (a : Addr) (m : Mask) (d : Line) :
    (s.issue o k a m d).mem =
      { s.mem with outstanding := s.mem.outstanding ++ [⟨s.mem.nextId, o, k, a, m, d⟩], nextId := s.mem.nextId + 1 } := rfl
@[simp] theorem State.issue_mon (o : Owner) (k : XferKind) (a : Addr) (m : Mask) (d : Line) :
    (s.issue o k a m d).mon = s.mon := rfl
@[simp] theorem State.issue_tables (o : Owner) (k : XferKind) (a : Addr) (m : Mask) (d : Line) :
    (s.issue o k a m d).tables = s.tables := rfl
@[simp] theorem State.issue_map (o : Owner) (k : XferKind) (a : Addr) (m : Mask) (d : Line) :
    (s.issue o k a m d).map = s.map := rfl
@[simp] theorem State.issue_camp (o : Owner) (k : XferKind) (a : Addr) (m : Mask) (d : Line) :
    (s.issue o k a m d).camp = s.camp := rfl
@[simp] theorem State.issue_conv (o : Owner) (k : XferKind) (a : Addr) (m : Mask) (d : Line) :
    (s.issue o k a m d).conv = s.conv := rfl
@[simp] theorem State.issue_eng (o : Owner) (k : XferKind) (a : Addr) (m : Mask) (d : Line) :
    (s.issue o k a m d).eng = s.eng := rfl
@[simp] theorem State.issue_aud (o : Owner) (k : XferKind) (a : Addr) (m : Mask) (d : Line) :
    (s.issue o k a m d).aud = s.aud := rfl
@[simp] theorem State.issue_txq (o : Owner) (k : XferKind) (a : Addr) (m : Mask) (d : Line) :
    (s.issue o k a m d).txq = s.txq := rfl
@[simp] theorem State.issue_link (o : Owner) (k : XferKind) (a : Addr) (m : Mask) (d : Line) :
    (s.issue o k a m d).link = s.link := rfl
@[simp] theorem State.issue_rx (o : Owner) (k : XferKind) (a : Addr) (m : Mask) (d : Line) :
    (s.issue o k a m d).rx = s.rx := rfl
@[simp] theorem State.issue_mgmt (o : Owner) (k : XferKind) (a : Addr) (m : Mask) (d : Line) :
    (s.issue o k a m d).mgmt = s.mgmt := rfl
@[simp] theorem State.issue_cfg (o : Owner) (k : XferKind) (a : Addr) (m : Mask) (d : Line) :
    (s.issue o k a m d).cfg = s.cfg := rfl
@[simp] theorem State.issue_pending (o : Owner) (k : XferKind) (a : Addr) (m : Mask) (d : Line) :
    (s.issue o k a m d).pending = s.pending := rfl

@[simp] theorem State.abandonOwned_mem (p : Owner → Bool) :
    (s.abandonOwned p).mem =
      { s.mem with outstanding := s.mem.outstanding.map fun x => if p x.owner then { x with owner := .abandoned } else x } := rfl
@[simp] theorem State.abandonOwned_mon (p : Owner → Bool) : (s.abandonOwned p).mon = s.mon := rfl
@[simp] theorem State.abandonOwned_tables (p : Owner → Bool) : (s.abandonOwned p).tables = s.tables := rfl
@[simp] theorem State.abandonOwned_map (p : Owner → Bool) : (s.abandonOwned p).map = s.map := rfl
@[simp] theorem State.abandonOwned_camp (p : Owner → Bool) : (s.abandonOwned p).camp = s.camp := rfl
@[simp] theorem State.abandonOwned_conv (p : Owner → Bool) : (s.abandonOwned p).conv = s.conv := rfl
@[simp] theorem State.abandonOwned_eng (p : Owner → Bool) : (s.abandonOwned p).eng = s.eng := rfl
@[simp] theorem State.abandonOwned_aud (p : Owner → Bool) : (s.abandonOwned p).aud = s.aud := rfl
@[simp] theorem State.abandonOwned_txq (p : Owner → Bool) : (s.abandonOwned p).txq = s.txq := rfl
@[simp] theorem State.abandonOwned_link (p : Owner → Bool) : (s.abandonOwned p).link = s.link := rfl
@[simp] theorem State.abandonOwned_rx (p : Owner → Bool) : (s.abandonOwned p).rx = s.rx := rfl
@[simp] theorem State.abandonOwned_mgmt (p : Owner → Bool) : (s.abandonOwned p).mgmt = s.mgmt := rfl
@[simp] theorem State.abandonOwned_cfg (p : Owner → Bool) : (s.abandonOwned p).cfg = s.cfg := rfl
@[simp] theorem State.abandonOwned_pending (p : Owner → Bool) : (s.abandonOwned p).pending = s.pending := rfl

@[simp] theorem State.countGrant_mem (c : Nat) :
    (s.countGrant c).mem = { s.mem with frameGrants := (s.mem.frameGrants + 1) % 64, credit := c } := rfl
@[simp] theorem State.countGrant_mon (c : Nat) : (s.countGrant c).mon = s.mon := rfl
@[simp] theorem State.countGrant_tables (c : Nat) : (s.countGrant c).tables = s.tables := rfl
@[simp] theorem State.countGrant_map (c : Nat) : (s.countGrant c).map = s.map := rfl
@[simp] theorem State.countGrant_camp (c : Nat) : (s.countGrant c).camp = s.camp := rfl
@[simp] theorem State.countGrant_conv (c : Nat) : (s.countGrant c).conv = s.conv := rfl
@[simp] theorem State.countGrant_eng (c : Nat) : (s.countGrant c).eng = s.eng := rfl
@[simp] theorem State.countGrant_aud (c : Nat) : (s.countGrant c).aud = s.aud := rfl
@[simp] theorem State.countGrant_txq (c : Nat) : (s.countGrant c).txq = s.txq := rfl
@[simp] theorem State.countGrant_link (c : Nat) : (s.countGrant c).link = s.link := rfl
@[simp] theorem State.countGrant_rx (c : Nat) : (s.countGrant c).rx = s.rx := rfl
@[simp] theorem State.countGrant_mgmt (c : Nat) : (s.countGrant c).mgmt = s.mgmt := rfl
@[simp] theorem State.countGrant_cfg (c : Nat) : (s.countGrant c).cfg = s.cfg := rfl
@[simp] theorem State.countGrant_pending (c : Nat) : (s.countGrant c).pending = s.pending := rfl

@[simp] theorem State.abandonEntry_mon (t : Nat) : (s.abandonEntry t).mon = s.mon := rfl
@[simp] theorem State.abandonEntry_tables (t : Nat) : (s.abandonEntry t).tables = s.tables := rfl
@[simp] theorem State.abandonEntry_map (t : Nat) : (s.abandonEntry t).map = s.map := rfl
@[simp] theorem State.abandonEntry_camp (t : Nat) : (s.abandonEntry t).camp = s.camp := rfl
@[simp] theorem State.abandonEntry_conv (t : Nat) : (s.abandonEntry t).conv = s.conv := rfl
@[simp] theorem State.abandonEntry_eng (t : Nat) :
    (s.abandonEntry t).eng = { s.eng with inFlight := s.eng.inFlight.filter fun e => e.tile != t } := rfl
@[simp] theorem State.abandonEntry_aud (t : Nat) : (s.abandonEntry t).aud = s.aud := rfl
@[simp] theorem State.abandonEntry_txq (t : Nat) : (s.abandonEntry t).txq = s.txq := rfl
@[simp] theorem State.abandonEntry_link (t : Nat) : (s.abandonEntry t).link = s.link := rfl
@[simp] theorem State.abandonEntry_rx (t : Nat) : (s.abandonEntry t).rx = s.rx := rfl
@[simp] theorem State.abandonEntry_mgmt (t : Nat) : (s.abandonEntry t).mgmt = s.mgmt := rfl
@[simp] theorem State.abandonEntry_cfg (t : Nat) : (s.abandonEntry t).cfg = s.cfg := rfl
@[simp] theorem State.abandonEntry_pending (t : Nat) : (s.abandonEntry t).pending = s.pending := rfl

@[simp] theorem State.abandonAll_mon : (s.abandonAll).mon = s.mon := rfl
@[simp] theorem State.abandonAll_tables : (s.abandonAll).tables = s.tables := rfl
@[simp] theorem State.abandonAll_map : (s.abandonAll).map = s.map := rfl
@[simp] theorem State.abandonAll_camp : (s.abandonAll).camp = s.camp := rfl
@[simp] theorem State.abandonAll_conv : (s.abandonAll).conv = s.conv := rfl
@[simp] theorem State.abandonAll_eng : (s.abandonAll).eng = { s.eng with inFlight := [] } := rfl
@[simp] theorem State.abandonAll_aud : (s.abandonAll).aud = s.aud := rfl
@[simp] theorem State.abandonAll_txq : (s.abandonAll).txq = s.txq := rfl
@[simp] theorem State.abandonAll_link : (s.abandonAll).link = s.link := rfl
@[simp] theorem State.abandonAll_rx : (s.abandonAll).rx = s.rx := rfl
@[simp] theorem State.abandonAll_mgmt : (s.abandonAll).mgmt = s.mgmt := rfl
@[simp] theorem State.abandonAll_cfg : (s.abandonAll).cfg = s.cfg := rfl
@[simp] theorem State.abandonAll_pending : (s.abandonAll).pending = s.pending := rfl

@[simp] theorem State.redirty_mem (t : Nat) : (s.redirty t).mem = s.mem := rfl
@[simp] theorem State.redirty_mon (t : Nat) : (s.redirty t).mon = s.mon := rfl
@[simp] theorem State.redirty_tables (t : Nat) : (s.redirty t).tables = s.tables := rfl
@[simp] theorem State.redirty_map (t : Nat) : (s.redirty t).map = s.map := rfl
@[simp] theorem State.redirty_camp (t : Nat) : (s.redirty t).camp = s.camp := rfl
@[simp] theorem State.redirty_conv (t : Nat) : (s.redirty t).conv = s.conv := rfl
@[simp] theorem State.redirty_eng (t : Nat) :
    (s.redirty t).eng =
      { s.eng with inFlight := s.eng.inFlight.map fun e => if e.tile = t then { e with redirtied := true } else e } := rfl
@[simp] theorem State.redirty_aud (t : Nat) : (s.redirty t).aud = s.aud := rfl
@[simp] theorem State.redirty_txq (t : Nat) : (s.redirty t).txq = s.txq := rfl
@[simp] theorem State.redirty_link (t : Nat) : (s.redirty t).link = s.link := rfl
@[simp] theorem State.redirty_rx (t : Nat) : (s.redirty t).rx = s.rx := rfl
@[simp] theorem State.redirty_mgmt (t : Nat) : (s.redirty t).mgmt = s.mgmt := rfl
@[simp] theorem State.redirty_cfg (t : Nat) : (s.redirty t).cfg = s.cfg := rfl
@[simp] theorem State.redirty_pending (t : Nat) : (s.redirty t).pending = s.pending := rfl

@[simp] theorem State.updateEntry_mem (t : Nat) (f : InFlight → InFlight) : (s.updateEntry t f).mem = s.mem := rfl
@[simp] theorem State.updateEntry_mon (t : Nat) (f : InFlight → InFlight) : (s.updateEntry t f).mon = s.mon := rfl
@[simp] theorem State.updateEntry_tables (t : Nat) (f : InFlight → InFlight) :
    (s.updateEntry t f).tables = s.tables := rfl
@[simp] theorem State.updateEntry_map (t : Nat) (f : InFlight → InFlight) : (s.updateEntry t f).map = s.map := rfl
@[simp] theorem State.updateEntry_camp (t : Nat) (f : InFlight → InFlight) : (s.updateEntry t f).camp = s.camp := rfl
@[simp] theorem State.updateEntry_conv (t : Nat) (f : InFlight → InFlight) : (s.updateEntry t f).conv = s.conv := rfl
@[simp] theorem State.updateEntry_eng (t : Nat) (f : InFlight → InFlight) :
    (s.updateEntry t f).eng =
      { s.eng with inFlight := s.eng.inFlight.map fun e => if e.tile = t then f e else e } := rfl
@[simp] theorem State.updateEntry_aud (t : Nat) (f : InFlight → InFlight) : (s.updateEntry t f).aud = s.aud := rfl
@[simp] theorem State.updateEntry_txq (t : Nat) (f : InFlight → InFlight) : (s.updateEntry t f).txq = s.txq := rfl
@[simp] theorem State.updateEntry_link (t : Nat) (f : InFlight → InFlight) : (s.updateEntry t f).link = s.link := rfl
@[simp] theorem State.updateEntry_rx (t : Nat) (f : InFlight → InFlight) : (s.updateEntry t f).rx = s.rx := rfl
@[simp] theorem State.updateEntry_mgmt (t : Nat) (f : InFlight → InFlight) : (s.updateEntry t f).mgmt = s.mgmt := rfl
@[simp] theorem State.updateEntry_cfg (t : Nat) (f : InFlight → InFlight) : (s.updateEntry t f).cfg = s.cfg := rfl
@[simp] theorem State.updateEntry_pending (t : Nat) (f : InFlight → InFlight) :
    (s.updateEntry t f).pending = s.pending := rfl

@[simp] theorem State.nextEntry_mem : (s.nextEntry).mem = s.mem := rfl
@[simp] theorem State.nextEntry_mon : (s.nextEntry).mon = s.mon := rfl
@[simp] theorem State.nextEntry_tables : (s.nextEntry).tables = s.tables := rfl
@[simp] theorem State.nextEntry_map : (s.nextEntry).map = s.map := rfl
@[simp] theorem State.nextEntry_camp : (s.nextEntry).camp = s.camp := rfl
@[simp] theorem State.nextEntry_conv : (s.nextEntry).conv = s.conv := rfl
@[simp] theorem State.nextEntry_eng : (s.nextEntry).eng = { s.eng with sweep := ⟨s.eng.sweep.entry + 1, 0⟩ } := rfl
@[simp] theorem State.nextEntry_aud : (s.nextEntry).aud = s.aud := rfl
@[simp] theorem State.nextEntry_txq : (s.nextEntry).txq = s.txq := rfl
@[simp] theorem State.nextEntry_link : (s.nextEntry).link = s.link := rfl
@[simp] theorem State.nextEntry_rx : (s.nextEntry).rx = s.rx := rfl
@[simp] theorem State.nextEntry_mgmt : (s.nextEntry).mgmt = s.mgmt := rfl
@[simp] theorem State.nextEntry_cfg : (s.nextEntry).cfg = s.cfg := rfl
@[simp] theorem State.nextEntry_pending : (s.nextEntry).pending = s.pending := rfl

@[simp] theorem State.dropWork_mon : (s.dropWork).mon = s.mon := rfl
@[simp] theorem State.dropWork_tables : (s.dropWork).tables = s.tables := rfl
@[simp] theorem State.dropWork_map : (s.dropWork).map = s.map := rfl
@[simp] theorem State.dropWork_camp : (s.dropWork).camp = s.camp := rfl
@[simp] theorem State.dropWork_conv : (s.dropWork).conv = s.conv := rfl
@[simp] theorem State.dropWork_eng : (s.dropWork).eng = { s.eng with inFlight := [], demandQueue := [] } := rfl
@[simp] theorem State.dropWork_aud : (s.dropWork).aud = s.aud := rfl
@[simp] theorem State.dropWork_txq : (s.dropWork).txq = s.txq.emptied := rfl
@[simp] theorem State.dropWork_link : (s.dropWork).link = s.link := rfl
@[simp] theorem State.dropWork_rx : (s.dropWork).rx = s.rx := rfl
@[simp] theorem State.dropWork_mgmt : (s.dropWork).mgmt = s.mgmt := rfl
@[simp] theorem State.dropWork_cfg : (s.dropWork).cfg = s.cfg := rfl
@[simp] theorem State.dropWork_pending : (s.dropWork).pending = s.pending := rfl
@[simp] theorem State.dropMismatches_mem (r : ExitReason) : (s.dropMismatches r).mem = s.mem := rfl
@[simp] theorem State.dropMismatches_mon (r : ExitReason) : (s.dropMismatches r).mon = s.mon := rfl
@[simp] theorem State.dropMismatches_tables (r : ExitReason) : (s.dropMismatches r).tables = s.tables := rfl
@[simp] theorem State.dropMismatches_map (r : ExitReason) : (s.dropMismatches r).map = s.map := rfl
@[simp] theorem State.dropMismatches_camp (r : ExitReason) : (s.dropMismatches r).camp = s.camp := rfl
@[simp] theorem State.dropMismatches_conv (r : ExitReason) : (s.dropMismatches r).conv = s.conv := rfl
@[simp] theorem State.dropMismatches_eng (r : ExitReason) : (s.dropMismatches r).eng = s.eng := rfl
@[simp] theorem State.dropMismatches_txq (r : ExitReason) : (s.dropMismatches r).txq = s.txq := rfl
@[simp] theorem State.dropMismatches_link (r : ExitReason) : (s.dropMismatches r).link = s.link := rfl
@[simp] theorem State.dropMismatches_rx (r : ExitReason) : (s.dropMismatches r).rx = s.rx := rfl
@[simp] theorem State.dropMismatches_mgmt (r : ExitReason) : (s.dropMismatches r).mgmt = s.mgmt := rfl
@[simp] theorem State.dropMismatches_cfg (r : ExitReason) : (s.dropMismatches r).cfg = s.cfg := rfl
@[simp] theorem State.dropMismatches_pending (r : ExitReason) : (s.dropMismatches r).pending = s.pending := rfl
@[simp] theorem State.dropMismatches_aud (r : ExitReason) : (s.dropMismatches r).aud =
    { s.aud with mismatch := if r = .auditFailed then s.aud.mismatch else 0 } := rfl

@[simp] theorem State.resetShare_mem : (s.resetShare).mem = s.mem := rfl
@[simp] theorem State.resetShare_mon : (s.resetShare).mon = s.mon := rfl
@[simp] theorem State.resetShare_tables : (s.resetShare).tables = s.tables := rfl
@[simp] theorem State.resetShare_map : (s.resetShare).map = s.map := rfl
@[simp] theorem State.resetShare_camp : (s.resetShare).camp = s.camp := rfl
@[simp] theorem State.resetShare_conv :
    (s.resetShare).conv = { s.conv with share := s.cfg.share, boost := false } := rfl
@[simp] theorem State.resetShare_eng : (s.resetShare).eng = s.eng := rfl
@[simp] theorem State.resetShare_aud : (s.resetShare).aud = s.aud := rfl
@[simp] theorem State.resetShare_txq : (s.resetShare).txq = s.txq := rfl
@[simp] theorem State.resetShare_link : (s.resetShare).link = s.link := rfl
@[simp] theorem State.resetShare_rx : (s.resetShare).rx = s.rx := rfl
@[simp] theorem State.resetShare_mgmt : (s.resetShare).mgmt = s.mgmt := rfl
@[simp] theorem State.resetShare_cfg : (s.resetShare).cfg = s.cfg := rfl
@[simp] theorem State.resetShare_pending : (s.resetShare).pending = s.pending := rfl

@[simp] theorem State.writeExit_mem (r : ExitReason) : (s.writeExit r).mem = s.mem := rfl
@[simp] theorem State.writeExit_mon (r : ExitReason) : (s.writeExit r).mon = s.mon := rfl
@[simp] theorem State.writeExit_tables (r : ExitReason) : (s.writeExit r).tables = s.tables := rfl
@[simp] theorem State.writeExit_map (r : ExitReason) : (s.writeExit r).map = s.map := rfl
@[simp] theorem State.writeExit_camp (r : ExitReason) :
    (s.writeExit r).camp = { s.camp with exit := s.exitRecord r } := rfl
@[simp] theorem State.writeExit_conv (r : ExitReason) : (s.writeExit r).conv = s.conv := rfl
@[simp] theorem State.writeExit_eng (r : ExitReason) : (s.writeExit r).eng = s.eng := rfl
@[simp] theorem State.writeExit_aud (r : ExitReason) : (s.writeExit r).aud = s.aud := rfl
@[simp] theorem State.writeExit_txq (r : ExitReason) : (s.writeExit r).txq = s.txq := rfl
@[simp] theorem State.writeExit_link (r : ExitReason) : (s.writeExit r).link = s.link := rfl
@[simp] theorem State.writeExit_rx (r : ExitReason) : (s.writeExit r).rx = s.rx := rfl
@[simp] theorem State.writeExit_mgmt (r : ExitReason) : (s.writeExit r).mgmt = s.mgmt := rfl
@[simp] theorem State.writeExit_cfg (r : ExitReason) : (s.writeExit r).cfg = s.cfg := rfl
@[simp] theorem State.writeExit_pending (r : ExitReason) : (s.writeExit r).pending = s.pending := rfl

@[simp] theorem State.settleEnd_mem : (s.settleEnd).mem = s.mem := rfl
@[simp] theorem State.settleEnd_mon : (s.settleEnd).mon = s.mon := rfl
@[simp] theorem State.settleEnd_tables : (s.settleEnd).tables = { s.tables with pending := none } := rfl
@[simp] theorem State.settleEnd_map : (s.settleEnd).map = s.map := rfl
@[simp] theorem State.settleEnd_camp :
    (s.settleEnd).camp =
      { s.camp.stopTimers with breakFlag := false, shareOverride := false, copyBegun := false } := rfl
@[simp] theorem State.settleEnd_conv :
    (s.settleEnd).conv = { s.conv with share := s.cfg.share, boost := false } := rfl
@[simp] theorem State.settleEnd_eng : (s.settleEnd).eng = s.eng := rfl
@[simp] theorem State.settleEnd_aud : (s.settleEnd).aud = s.aud := rfl
@[simp] theorem State.settleEnd_txq : (s.settleEnd).txq = s.txq := rfl
@[simp] theorem State.settleEnd_link : (s.settleEnd).link = s.link := rfl
@[simp] theorem State.settleEnd_rx : (s.settleEnd).rx = s.rx := rfl
@[simp] theorem State.settleEnd_mgmt : (s.settleEnd).mgmt = s.mgmt := rfl
@[simp] theorem State.settleEnd_cfg : (s.settleEnd).cfg = s.cfg := rfl
@[simp] theorem State.settleEnd_pending : (s.settleEnd).pending = s.pending := rfl

@[simp] theorem State.queueMark_mem (b : TxBody) : (s.queueMark b).mem = s.mem := rfl
@[simp] theorem State.queueMark_mon (b : TxBody) : (s.queueMark b).mon = s.mon := rfl
@[simp] theorem State.queueMark_tables (b : TxBody) : (s.queueMark b).tables = s.tables := rfl
@[simp] theorem State.queueMark_map (b : TxBody) : (s.queueMark b).map = s.map := rfl
@[simp] theorem State.queueMark_camp (b : TxBody) : (s.queueMark b).camp = s.camp := rfl
@[simp] theorem State.queueMark_conv (b : TxBody) : (s.queueMark b).conv = s.conv := rfl
@[simp] theorem State.queueMark_eng (b : TxBody) : (s.queueMark b).eng = s.eng := rfl
@[simp] theorem State.queueMark_aud (b : TxBody) : (s.queueMark b).aud = s.aud := rfl
@[simp] theorem State.queueMark_txq (b : TxBody) : (s.queueMark b).txq = s.txq.join b := rfl
@[simp] theorem State.queueMark_link (b : TxBody) : (s.queueMark b).link = s.link := rfl
@[simp] theorem State.queueMark_rx (b : TxBody) : (s.queueMark b).rx = s.rx := rfl
@[simp] theorem State.queueMark_mgmt (b : TxBody) : (s.queueMark b).mgmt = s.mgmt := rfl
@[simp] theorem State.queueMark_cfg (b : TxBody) : (s.queueMark b).cfg = s.cfg := rfl
@[simp] theorem State.queueMark_pending (b : TxBody) : (s.queueMark b).pending = s.pending := rfl

@[simp] theorem State.queueUnsync_mem : (s.queueUnsync).mem = s.mem := rfl
@[simp] theorem State.queueUnsync_mon : (s.queueUnsync).mon = s.mon := rfl
@[simp] theorem State.queueUnsync_tables : (s.queueUnsync).tables = s.tables := rfl
@[simp] theorem State.queueUnsync_map : (s.queueUnsync).map = s.map := rfl
@[simp] theorem State.queueUnsync_camp : (s.queueUnsync).camp = { s.camp with synced := false } := rfl
@[simp] theorem State.queueUnsync_conv : (s.queueUnsync).conv = s.conv := rfl
@[simp] theorem State.queueUnsync_eng : (s.queueUnsync).eng = s.eng := rfl
@[simp] theorem State.queueUnsync_aud : (s.queueUnsync).aud = s.aud := rfl
@[simp] theorem State.queueUnsync_txq : (s.queueUnsync).txq = s.txq.join (.syncMark false) := rfl
@[simp] theorem State.queueUnsync_link : (s.queueUnsync).link = s.link := rfl
@[simp] theorem State.queueUnsync_rx : (s.queueUnsync).rx = s.rx := rfl
@[simp] theorem State.queueUnsync_mgmt : (s.queueUnsync).mgmt = s.mgmt := rfl
@[simp] theorem State.queueUnsync_cfg : (s.queueUnsync).cfg = s.cfg := rfl
@[simp] theorem State.queueUnsync_pending : (s.queueUnsync).pending = s.pending := rfl

@[simp] theorem State.prepareResync_mem (n : Seq) : (s.prepareResync n).mem = s.mem := rfl
@[simp] theorem State.prepareResync_mon (n : Seq) : (s.prepareResync n).mon = s.mon := rfl
@[simp] theorem State.prepareResync_tables (n : Seq) : (s.prepareResync n).tables = s.tables := rfl
@[simp] theorem State.prepareResync_map (n : Seq) : (s.prepareResync n).map = s.map := rfl
@[simp] theorem State.prepareResync_camp (n : Seq) : (s.prepareResync n).camp = s.camp := rfl
@[simp] theorem State.prepareResync_conv (n : Seq) : (s.prepareResync n).conv = s.conv := rfl
@[simp] theorem State.prepareResync_eng (n : Seq) : (s.prepareResync n).eng = s.eng := rfl
@[simp] theorem State.prepareResync_aud (n : Seq) : (s.prepareResync n).aud = s.aud := rfl
@[simp] theorem State.prepareResync_txq (n : Seq) :
    (s.prepareResync n).txq = { s.txq with nextSeq := n, resync := some n, resyncMark := some s.camp.synced } := rfl
@[simp] theorem State.prepareResync_link (n : Seq) : (s.prepareResync n).link = s.link := rfl
@[simp] theorem State.prepareResync_rx (n : Seq) : (s.prepareResync n).rx = s.rx := rfl
@[simp] theorem State.prepareResync_mgmt (n : Seq) : (s.prepareResync n).mgmt = s.mgmt := rfl
@[simp] theorem State.prepareResync_cfg (n : Seq) : (s.prepareResync n).cfg = s.cfg := rfl
@[simp] theorem State.prepareResync_pending (n : Seq) : (s.prepareResync n).pending = s.pending := rfl

@[simp] theorem State.raiseControl_mem (c : Control) : (s.raiseControl c).mem = s.mem := rfl
@[simp] theorem State.raiseControl_mon (c : Control) : (s.raiseControl c).mon = s.mon := rfl
@[simp] theorem State.raiseControl_tables (c : Control) : (s.raiseControl c).tables = s.tables := rfl
@[simp] theorem State.raiseControl_map (c : Control) : (s.raiseControl c).map = s.map := rfl
@[simp] theorem State.raiseControl_camp (c : Control) : (s.raiseControl c).camp = s.camp := rfl
@[simp] theorem State.raiseControl_conv (c : Control) : (s.raiseControl c).conv = s.conv := rfl
@[simp] theorem State.raiseControl_eng (c : Control) : (s.raiseControl c).eng = s.eng := rfl
@[simp] theorem State.raiseControl_aud (c : Control) : (s.raiseControl c).aud = s.aud := rfl
@[simp] theorem State.raiseControl_txq (c : Control) : (s.raiseControl c).txq = s.txq := rfl
@[simp] theorem State.raiseControl_link (c : Control) :
    (s.raiseControl c).link = { s.link with control := controlAdd c s.link.control } := rfl
@[simp] theorem State.raiseControl_rx (c : Control) : (s.raiseControl c).rx = s.rx := rfl
@[simp] theorem State.raiseControl_mgmt (c : Control) : (s.raiseControl c).mgmt = s.mgmt := rfl
@[simp] theorem State.raiseControl_cfg (c : Control) : (s.raiseControl c).cfg = s.cfg := rfl
@[simp] theorem State.raiseControl_pending (c : Control) : (s.raiseControl c).pending = s.pending := rfl

@[simp] theorem State.giveCredit_mem (n : Nat) : (s.giveCredit n).mem = s.mem := rfl
@[simp] theorem State.giveCredit_mon (n : Nat) : (s.giveCredit n).mon = s.mon := rfl
@[simp] theorem State.giveCredit_tables (n : Nat) : (s.giveCredit n).tables = s.tables := rfl
@[simp] theorem State.giveCredit_map (n : Nat) : (s.giveCredit n).map = s.map := rfl
@[simp] theorem State.giveCredit_camp (n : Nat) : (s.giveCredit n).camp = s.camp := rfl
@[simp] theorem State.giveCredit_conv (n : Nat) : (s.giveCredit n).conv = s.conv := rfl
@[simp] theorem State.giveCredit_eng (n : Nat) : (s.giveCredit n).eng = s.eng := rfl
@[simp] theorem State.giveCredit_aud (n : Nat) : (s.giveCredit n).aud = s.aud := rfl
@[simp] theorem State.giveCredit_txq (n : Nat) : (s.giveCredit n).txq = s.txq := rfl
@[simp] theorem State.giveCredit_link (n : Nat) : (s.giveCredit n).link = s.link.giveCredit n := rfl
@[simp] theorem State.giveCredit_rx (n : Nat) : (s.giveCredit n).rx = s.rx := rfl
@[simp] theorem State.giveCredit_mgmt (n : Nat) : (s.giveCredit n).mgmt = s.mgmt := rfl
@[simp] theorem State.giveCredit_cfg (n : Nat) : (s.giveCredit n).cfg = s.cfg := rfl
@[simp] theorem State.giveCredit_pending (n : Nat) : (s.giveCredit n).pending = s.pending := rfl

@[simp] theorem State.hand_mem (r : Report) : (s.hand r).mem = s.mem := rfl
@[simp] theorem State.hand_mon (r : Report) : (s.hand r).mon = s.mon := rfl
@[simp] theorem State.hand_tables (r : Report) : (s.hand r).tables = s.tables := rfl
@[simp] theorem State.hand_map (r : Report) : (s.hand r).map = s.map := rfl
@[simp] theorem State.hand_camp (r : Report) : (s.hand r).camp = s.camp := rfl
@[simp] theorem State.hand_conv (r : Report) : (s.hand r).conv = s.conv := rfl
@[simp] theorem State.hand_eng (r : Report) : (s.hand r).eng = s.eng := rfl
@[simp] theorem State.hand_aud (r : Report) : (s.hand r).aud = s.aud := rfl
@[simp] theorem State.hand_txq (r : Report) : (s.hand r).txq = s.txq := rfl
@[simp] theorem State.hand_link (r : Report) : (s.hand r).link = s.link.hand r := rfl
@[simp] theorem State.hand_rx (r : Report) : (s.hand r).rx = s.rx := rfl
@[simp] theorem State.hand_mgmt (r : Report) : (s.hand r).mgmt = s.mgmt := rfl
@[simp] theorem State.hand_cfg (r : Report) : (s.hand r).cfg = s.cfg := rfl
@[simp] theorem State.hand_pending (r : Report) : (s.hand r).pending = s.pending := rfl

@[simp] theorem State.send_mem (f : Frame) : (s.send f).mem = s.mem := rfl
@[simp] theorem State.send_mon (f : Frame) : (s.send f).mon = s.mon := rfl
@[simp] theorem State.send_tables (f : Frame) : (s.send f).tables = s.tables := rfl
@[simp] theorem State.send_map (f : Frame) : (s.send f).map = s.map := rfl
@[simp] theorem State.send_camp (f : Frame) : (s.send f).camp = s.camp := rfl
@[simp] theorem State.send_conv (f : Frame) : (s.send f).conv = s.conv := rfl
@[simp] theorem State.send_eng (f : Frame) : (s.send f).eng = s.eng := rfl
@[simp] theorem State.send_aud (f : Frame) : (s.send f).aud = s.aud := rfl
@[simp] theorem State.send_txq (f : Frame) : (s.send f).txq = s.txq := rfl
@[simp] theorem State.send_link (f : Frame) :
    (s.send f).link = { s.link with linkOut := s.link.linkOut ++ [f], keepaliveDue := false } := rfl
@[simp] theorem State.send_rx (f : Frame) : (s.send f).rx = s.rx := rfl
@[simp] theorem State.send_mgmt (f : Frame) : (s.send f).mgmt = s.mgmt := rfl
@[simp] theorem State.send_cfg (f : Frame) : (s.send f).cfg = s.cfg := rfl
@[simp] theorem State.send_pending (f : Frame) : (s.send f).pending = s.pending := rfl

@[simp] theorem State.goodFrame_mem : (s.goodFrame).mem = s.mem := rfl
@[simp] theorem State.goodFrame_mon : (s.goodFrame).mon = s.mon := rfl
@[simp] theorem State.goodFrame_tables : (s.goodFrame).tables = s.tables := rfl
@[simp] theorem State.goodFrame_map : (s.goodFrame).map = s.map := rfl
@[simp] theorem State.goodFrame_camp : (s.goodFrame).camp = s.camp := rfl
@[simp] theorem State.goodFrame_conv : (s.goodFrame).conv = s.conv := rfl
@[simp] theorem State.goodFrame_eng : (s.goodFrame).eng = s.eng := rfl
@[simp] theorem State.goodFrame_aud : (s.goodFrame).aud = s.aud := rfl
@[simp] theorem State.goodFrame_txq : (s.goodFrame).txq = s.txq := rfl
@[simp] theorem State.goodFrame_link :
    (s.goodFrame).link = { s.link with silence := s.link.silence.map fun _ => 5000, burst := 0 } := rfl
@[simp] theorem State.goodFrame_rx : (s.goodFrame).rx = s.rx := rfl
@[simp] theorem State.goodFrame_mgmt : (s.goodFrame).mgmt = s.mgmt := rfl
@[simp] theorem State.goodFrame_cfg : (s.goodFrame).cfg = s.cfg := rfl
@[simp] theorem State.goodFrame_pending : (s.goodFrame).pending = s.pending := rfl

@[simp] theorem State.dropDemand_mem (t : Nat) : (s.dropDemand t).mem = s.mem := rfl
@[simp] theorem State.dropDemand_mon (t : Nat) : (s.dropDemand t).mon = s.mon := rfl
@[simp] theorem State.dropDemand_tables (t : Nat) : (s.dropDemand t).tables = s.tables := rfl
@[simp] theorem State.dropDemand_map (t : Nat) : (s.dropDemand t).map = s.map := rfl
@[simp] theorem State.dropDemand_camp (t : Nat) : (s.dropDemand t).camp = s.camp := rfl
@[simp] theorem State.dropDemand_conv (t : Nat) : (s.dropDemand t).conv = s.conv := rfl
@[simp] theorem State.dropDemand_eng (t : Nat) : (s.dropDemand t).eng = s.eng := rfl
@[simp] theorem State.dropDemand_aud (t : Nat) : (s.dropDemand t).aud = s.aud := rfl
@[simp] theorem State.dropDemand_txq (t : Nat) : (s.dropDemand t).txq = s.txq := rfl
@[simp] theorem State.dropDemand_link (t : Nat) : (s.dropDemand t).link = s.link := rfl
@[simp] theorem State.dropDemand_rx (t : Nat) :
    (s.dropDemand t).rx =
      { s.rx with demands := s.rx.demands.filter (fun d => d.tile != t), expired := s.rx.expired.filter fun u => u != t } := rfl
@[simp] theorem State.dropDemand_mgmt (t : Nat) : (s.dropDemand t).mgmt = s.mgmt := rfl
@[simp] theorem State.dropDemand_cfg (t : Nat) : (s.dropDemand t).cfg = s.cfg := rfl
@[simp] theorem State.dropDemand_pending (t : Nat) : (s.dropDemand t).pending = s.pending := rfl

@[simp] theorem State.makeValid_mem (t : Nat) : (s.makeValid t).mem = s.mem := rfl
@[simp] theorem State.makeValid_mon (t : Nat) : (s.makeValid t).mon = s.mon := rfl
@[simp] theorem State.makeValid_tables (t : Nat) : (s.makeValid t).tables = s.tables := rfl
@[simp] theorem State.makeValid_map (t : Nat) : (s.makeValid t).map = setBit s.map t := rfl
@[simp] theorem State.makeValid_camp (t : Nat) : (s.makeValid t).camp = s.camp := rfl
@[simp] theorem State.makeValid_conv (t : Nat) : (s.makeValid t).conv = s.conv := rfl
@[simp] theorem State.makeValid_eng (t : Nat) : (s.makeValid t).eng = s.eng := rfl
@[simp] theorem State.makeValid_aud (t : Nat) : (s.makeValid t).aud = s.aud := rfl
@[simp] theorem State.makeValid_txq (t : Nat) : (s.makeValid t).txq = s.txq := rfl
@[simp] theorem State.makeValid_link (t : Nat) : (s.makeValid t).link = s.link := rfl
@[simp] theorem State.makeValid_rx (t : Nat) :
    (s.makeValid t).rx =
      { s.rx with demands := s.rx.demands.filter (fun d => d.tile != t), expired := s.rx.expired.filter fun u => u != t } := rfl
@[simp] theorem State.makeValid_mgmt (t : Nat) : (s.makeValid t).mgmt = s.mgmt := rfl
@[simp] theorem State.makeValid_cfg (t : Nat) : (s.makeValid t).cfg = s.cfg := rfl
@[simp] theorem State.makeValid_pending (t : Nat) : (s.makeValid t).pending = s.pending := rfl

@[simp] theorem State.makeInvalid_mem (t : Nat) : (s.makeInvalid t).mem = s.mem := rfl
@[simp] theorem State.makeInvalid_mon (t : Nat) : (s.makeInvalid t).mon = s.mon := rfl
@[simp] theorem State.makeInvalid_tables (t : Nat) : (s.makeInvalid t).tables = s.tables := rfl
@[simp] theorem State.makeInvalid_map (t : Nat) : (s.makeInvalid t).map = clearBit s.map t := rfl
@[simp] theorem State.makeInvalid_camp (t : Nat) : (s.makeInvalid t).camp = s.camp := rfl
@[simp] theorem State.makeInvalid_conv (t : Nat) : (s.makeInvalid t).conv = s.conv := rfl
@[simp] theorem State.makeInvalid_eng (t : Nat) : (s.makeInvalid t).eng = s.eng := rfl
@[simp] theorem State.makeInvalid_aud (t : Nat) : (s.makeInvalid t).aud = s.aud := rfl
@[simp] theorem State.makeInvalid_txq (t : Nat) : (s.makeInvalid t).txq = s.txq := rfl
@[simp] theorem State.makeInvalid_link (t : Nat) : (s.makeInvalid t).link = s.link := rfl
@[simp] theorem State.makeInvalid_rx (t : Nat) : (s.makeInvalid t).rx = s.rx := rfl
@[simp] theorem State.makeInvalid_mgmt (t : Nat) : (s.makeInvalid t).mgmt = s.mgmt := rfl
@[simp] theorem State.makeInvalid_cfg (t : Nat) : (s.makeInvalid t).cfg = s.cfg := rfl
@[simp] theorem State.makeInvalid_pending (t : Nat) : (s.makeInvalid t).pending = s.pending := rfl

@[simp] theorem State.breakAssembly_mem : (s.breakAssembly).mem = s.mem := rfl
@[simp] theorem State.breakAssembly_mon : (s.breakAssembly).mon = s.mon := rfl
@[simp] theorem State.breakAssembly_tables : (s.breakAssembly).tables = s.tables := rfl
@[simp] theorem State.breakAssembly_map : (s.breakAssembly).map = s.map := rfl
@[simp] theorem State.breakAssembly_camp : (s.breakAssembly).camp = s.camp := rfl
@[simp] theorem State.breakAssembly_conv : (s.breakAssembly).conv = s.conv := rfl
@[simp] theorem State.breakAssembly_eng : (s.breakAssembly).eng = s.eng := rfl
@[simp] theorem State.breakAssembly_aud : (s.breakAssembly).aud = s.aud := rfl
@[simp] theorem State.breakAssembly_txq : (s.breakAssembly).txq = s.txq := rfl
@[simp] theorem State.breakAssembly_link : (s.breakAssembly).link = s.link := rfl
@[simp] theorem State.breakAssembly_rx :
    (s.breakAssembly).rx = { s.rx with assembly := s.rx.assembly.map fun a => { a with broken := true } } := rfl
@[simp] theorem State.breakAssembly_mgmt : (s.breakAssembly).mgmt = s.mgmt := rfl
@[simp] theorem State.breakAssembly_cfg : (s.breakAssembly).cfg = s.cfg := rfl
@[simp] theorem State.breakAssembly_pending : (s.breakAssembly).pending = s.pending := rfl

@[simp] theorem State.abandonApplying_mon : (s.abandonApplying).mon = s.mon := rfl
@[simp] theorem State.abandonApplying_tables : (s.abandonApplying).tables = s.tables := rfl
@[simp] theorem State.abandonApplying_map : (s.abandonApplying).map = s.map := rfl
@[simp] theorem State.abandonApplying_camp : (s.abandonApplying).camp = s.camp := rfl
@[simp] theorem State.abandonApplying_conv : (s.abandonApplying).conv = s.conv := rfl
@[simp] theorem State.abandonApplying_eng : (s.abandonApplying).eng = s.eng := rfl
@[simp] theorem State.abandonApplying_aud : (s.abandonApplying).aud = s.aud := rfl
@[simp] theorem State.abandonApplying_txq : (s.abandonApplying).txq = s.txq := rfl
@[simp] theorem State.abandonApplying_link : (s.abandonApplying).link = s.link := rfl
@[simp] theorem State.abandonApplying_rx : (s.abandonApplying).rx = { s.rx with applying := none } := rfl
@[simp] theorem State.abandonApplying_mgmt : (s.abandonApplying).mgmt = s.mgmt := rfl
@[simp] theorem State.abandonApplying_cfg : (s.abandonApplying).cfg = s.cfg := rfl
@[simp] theorem State.abandonApplying_pending : (s.abandonApplying).pending = s.pending := rfl

@[simp] theorem State.abandonFill_mon : (s.abandonFill).mon = s.mon := rfl
@[simp] theorem State.abandonFill_tables : (s.abandonFill).tables = s.tables := rfl
@[simp] theorem State.abandonFill_map : (s.abandonFill).map = s.map := rfl
@[simp] theorem State.abandonFill_camp : (s.abandonFill).camp = s.camp := rfl
@[simp] theorem State.abandonFill_conv : (s.abandonFill).conv = s.conv := rfl
@[simp] theorem State.abandonFill_eng : (s.abandonFill).eng = s.eng := rfl
@[simp] theorem State.abandonFill_aud : (s.abandonFill).aud = s.aud := rfl
@[simp] theorem State.abandonFill_txq : (s.abandonFill).txq = s.txq := rfl
@[simp] theorem State.abandonFill_link : (s.abandonFill).link = s.link := rfl
@[simp] theorem State.abandonFill_rx : (s.abandonFill).rx = s.rx := rfl
@[simp] theorem State.abandonFill_mgmt : (s.abandonFill).mgmt = s.mgmt := rfl
@[simp] theorem State.abandonFill_cfg : (s.abandonFill).cfg = s.cfg := rfl
@[simp] theorem State.abandonFill_pending : (s.abandonFill).pending = s.pending := rfl

@[simp] theorem State.discardBuffer_mem : (s.discardBuffer).mem = s.mem := rfl
@[simp] theorem State.discardBuffer_mon : (s.discardBuffer).mon = s.mon := rfl
@[simp] theorem State.discardBuffer_tables : (s.discardBuffer).tables = s.tables := rfl
@[simp] theorem State.discardBuffer_map : (s.discardBuffer).map = s.map := rfl
@[simp] theorem State.discardBuffer_camp : (s.discardBuffer).camp = s.camp := rfl
@[simp] theorem State.discardBuffer_conv : (s.discardBuffer).conv = s.conv := rfl
@[simp] theorem State.discardBuffer_eng : (s.discardBuffer).eng = s.eng := rfl
@[simp] theorem State.discardBuffer_aud : (s.discardBuffer).aud = s.aud := rfl
@[simp] theorem State.discardBuffer_txq : (s.discardBuffer).txq = s.txq := rfl
@[simp] theorem State.discardBuffer_link : (s.discardBuffer).link = s.link.giveCredit s.rx.frames := rfl
@[simp] theorem State.discardBuffer_rx : (s.discardBuffer).rx = { s.rx with buffer := [] } := rfl
@[simp] theorem State.discardBuffer_mgmt : (s.discardBuffer).mgmt = s.mgmt := rfl
@[simp] theorem State.discardBuffer_cfg : (s.discardBuffer).cfg = s.cfg := rfl
@[simp] theorem State.discardBuffer_pending : (s.discardBuffer).pending = s.pending := rfl

end Sys2Proof.Machine
end

