-- ==== Sys2Proof/Laws/Ops.lean ====
section
/-! SUPPORT. What each shared operation can do, said once: bits of the tile map, the transmit queue's joins, the control list,
the report list, releases and changes of state. -/

namespace Sys2Proof.Machine

/-! ### Bits of the tile map -/

theorem getLsbD_setBit (m : TileMap) (t u : Nat) :
    (setBit m t).getLsbD u = (m.getLsbD u || (decide (t < 131072) && decide (t = u))) := by
  simp only [setBit, BitVec.getLsbD_or, BitVec.getLsbD_twoPow]

theorem getLsbD_clearBit (m : TileMap) (t u : Nat) :
    (clearBit m t).getLsbD u = (m.getLsbD u && decide (t ≠ u)) := by
  simp only [clearBit, BitVec.getLsbD_and, BitVec.getLsbD_not, BitVec.getLsbD_twoPow]
  by_cases hu : u < 131072
  · by_cases h : t = u <;> simp [h, hu]
  · simp [BitVec.getLsbD_of_ge m u (by omega)]

theorem bit_setBit (s : State) (t u : Nat) :
    State.bit { s with map := setBit s.map t } u = (s.bit u || (decide (t < 131072) && decide (t = u))) :=
  getLsbD_setBit s.map t u

/-- A region's mask has exactly the bits of its tiles that lie in the window. -/
theorem getLsbD_runMask (base count u : Nat) :
    (runMask base count).getLsbD u = decide (u < 131072 ∧ base ≤ u ∧ u < base + count) := by
  rw [Bool.eq_iff_iff]
  simp only [runMask, BitVec.getLsbD_shiftLeft, BitVec.getLsbD_ofNat, Nat.testBit_two_pow_sub_one, Bool.and_eq_true,
    Bool.not_eq_true', decide_eq_true_eq, decide_eq_false_iff_not]
  omega

/-- The tiles of the listed regions of one policy. -/
theorem getLsbD_policyMask (rs : List (Nat × Region)) (p : Policy) (u : Nat) :
    (policyMask rs p).getLsbD u = (decide (u < 131072) && rs.any fun r => r.2.policy == p && r.2.has u) := by
  have key : ∀ (l : List (Nat × Region)) (m : TileMap),
      (l.foldl (fun m r => if r.2.policy = p then m ||| r.2.mask else m) m).getLsbD u
        = (m.getLsbD u || (decide (u < 131072) && l.any fun r => r.2.policy == p && r.2.has u)) := by
    intro l
    induction l with
    | nil => intro m; simp
    | cons r l ih =>
      intro m
      rw [List.foldl_cons, ih]
      by_cases h : r.2.policy = p
      · simp only [h, ↓reduceIte, BitVec.getLsbD_or, Region.mask, getLsbD_runMask, Region.has, List.any_cons,
          beq_self_eq_true, Bool.true_and]
        by_cases hu : u < 131072 <;> simp [hu, Bool.or_assoc]
      · have h' : (r.2.policy == p) = false := by simpa using h
        simp [h, h']
  simp [policyMask, key]

/-! ### The transmit queue (R113, R114) -/

@[simp] theorem TxQueue.append_queue (q : TxQueue) (b : TxBody) :
    (q.append b).queue = q.queue ++ [⟨q.nextEntry, b, 0⟩] := rfl
@[simp] theorem TxQueue.append_backlog (q : TxQueue) (b : TxBody) : (q.append b).backlog = q.backlog := rfl
@[simp] theorem TxQueue.append_nextEntry (q : TxQueue) (b : TxBody) : (q.append b).nextEntry = q.nextEntry + 1 := rfl

/-- A join either appends the entry to a queue with room and no backlog, or leaves the queue and adds to the backlog. -/
theorem TxQueue.join_cases (q : TxQueue) (b : TxBody) :
    (q.queue.length < 256 ∧ q.backlog = [] ∧ q.join b = q.append b)
      ∨ ((256 ≤ q.queue.length ∨ q.backlog ≠ []) ∧ q.join b = { q with backlog := backlogAdd b q.backlog }) := by
  unfold TxQueue.join TxQueue.hasRoom Config.queueLimit
  by_cases h1 : q.queue.length < 256
  · cases h2 : q.backlog with
    | nil => left; simp [h1]
    | cons c l => right; simp
  · right; exact ⟨.inl (by omega), by simp [h1]⟩

/-- What a join leaves alone. -/
theorem TxQueue.join_frame (q : TxQueue) (b : TxBody) :
    (q.join b).record = q.record ∧ (q.join b).nextSeq = q.nextSeq ∧ (q.join b).credits = q.credits
      ∧ (q.join b).resync = q.resync ∧ (q.join b).resyncMark = q.resyncMark := by
  rcases q.join_cases b with ⟨_, _, h⟩ | ⟨_, h⟩ <;> rw [h] <;> exact ⟨rfl, rfl, rfl, rfl, rfl⟩

/-- A fold of appends adds one entry for each body, numbered in order, and changes nothing else. -/
theorem TxQueue.foldl_append (bs : List TxBody) (q : TxQueue) :
    bs.foldl TxQueue.append q =
      { q with
        queue := q.queue ++ bs.zipIdx.map fun p => ⟨q.nextEntry + p.2, p.1, 0⟩
        nextEntry := q.nextEntry + bs.length } := by
  induction bs generalizing q with
  | nil => simp
  | cons b bs ih =>
    rw [List.foldl_cons, ih]
    simp only [TxQueue.append, List.zipIdx_cons, List.map_cons, List.append_assoc, List.cons_append, List.nil_append,
      List.length_cons, Nat.add_zero]
    congr 1
    · congr 2
      rw [List.zipIdx_succ, List.map_map]
      refine List.map_congr_left fun p _ => ?_
      simp; omega
    · omega

/-- A refill moves as many backlog items as there are free places to the tail, in their order (R114). -/
theorem TxQueue.refill_eq (q : TxQueue) :
    q.refill =
      { q with
        queue := q.queue ++ (q.backlog.take (256 - q.queue.length)).zipIdx.map fun p => ⟨q.nextEntry + p.2, p.1, 0⟩
        backlog := q.backlog.drop (256 - q.queue.length)
        nextEntry := q.nextEntry + (q.backlog.take (256 - q.queue.length)).length } := by
  simp only [TxQueue.refill, TxQueue.foldl_append, Config.queueLimit]

/-- After a refill the backlog is empty or the queue is full. -/
theorem TxQueue.refill_full (q : TxQueue) (h : q.queue.length ≤ 256) :
    q.refill.queue.length ≤ 256 ∧ (q.refill.queue.length < 256 → q.refill.backlog = []) := by
  rw [TxQueue.refill_eq]
  simp only [List.length_append, List.length_map, List.length_zipIdx, List.length_take, List.drop_eq_nil_iff]
  omega

/-! ### The control list (R137) -/

theorem Control.sameKind_refl (c : Control) : c.sameKind c = true := by cases c <;> rfl

/-- A frame added to the control list stands in it. -/
theorem mem_controlAdd (c : Control) (l : List Control) : c ∈ controlAdd c l := by
  unfold controlAdd
  split
  · rename_i h
    obtain ⟨d, hd, hk⟩ := List.any_eq_true.mp h
    exact List.mem_map.mpr ⟨d, hd, by simp [hk]⟩
  · simp

/-! ### Releases and changes of state -/

/-- Forwarding a list of transfers puts them at the tail of the queue and of the passage record, in their order. -/
theorem State.foldl_forward (l : List Transfer) (s : State) :
    l.foldl State.forward s =
      { s with
        mem.queue := s.mem.queue ++ l
        mon.passage := s.mon.passage ++ l.map fun x => ⟨x.tag, x.kind, tileOf x.addr⟩ } := by
  induction l generalizing s with
  | nil => simp
  | cons x l ih => rw [List.foldl_cons, ih]; simp [State.forward]

/-- A release is the held transfers at the tail of the pass-through queue with both holds and the share override ended. -/
theorem State.release_eq (s : State) : s.release = s.releasedHolds := by
  simp only [State.release, State.foldl_forward, State.releasedHolds]

theorem LinkState.isOpen_iff (l : LinkState) : l.isOpen = true ↔ l = .up ∨ l = .cooldown := by
  cases l <;> simp [LinkState.isOpen]

/-- Entry to a campaign state changes the state and raises the HELLO that a change calls for (R140). -/
theorem State.enter_eq (s : State) (st : SenderState) : s.enter st = s.inState st := by
  unfold State.enter State.inState State.helloOnChange
  by_cases h : s.camp.state = st
  · subst h; simp
  · simp only [h, if_false, LinkState.isOpen_iff, ne_eq, not_false_eq_true, true_and]
    by_cases ho : s.link.state = .up ∨ s.link.state = .cooldown <;> simp [ho, State.raiseControl]

/-- What a change of campaign state leaves alone. -/
theorem State.inState_frame (s : State) (st : SenderState) :
    s.changesOnly (s.inState st) [.camp, .link] := by
  intro b hb
  cases b <;> first | rfl | simp at hb

/-- The HELLO of a change leaves everything but the control list. -/
theorem State.helloOnChange_eq (s : State) :
    s.helloOnChange = { s with link.control := if s.link.state.isOpen then controlAdd .hello s.link.control
      else s.link.control } := by
  unfold State.helloOnChange
  by_cases h : s.link.state.isOpen = true <;> simp [h, State.raiseControl]

/-! ### The report list (R138) -/

/-- Credits returned while the link is open. -/
theorem Link.giveCredit_open (l : Link) (n : Nat) (h : l.state.isOpen = true) : l.giveCredit n = l.returned n := by
  have hr : l.hasRoom 1 = decide (l.reports.length < 64) := rfl
  by_cases hn : n = 0
  · simp [Link.giveCredit, Link.returned, hn]
  · simp only [Link.giveCredit, Link.returned, hn, h, hr, Bool.not_true, decide_false, Bool.or_false, Bool.false_eq_true,
      if_false, decide_eq_true_eq]
    rfl

/-- Nothing is returned while the link is neither UP nor in COOLDOWN (R155). -/
theorem Link.giveCredit_closed (l : Link) (n : Nat) (h : l.state.isOpen = false) : l.giveCredit n = l := by
  simp [Link.giveCredit, h]

/-- A report other than APPLIED handed while the link is open. -/
theorem Link.hand_open (l : Link) (r : Report) (h : l.state.isOpen = true) (hr : r.isApplied = false) :
    l.hand r = l.reported r := by
  simp only [Link.hand, Link.reported, Link.hasRoom, h, hr, Config.reportLimit, Bool.true_and, decide_eq_true_eq,
    Bool.false_eq_true, if_false, Nat.succ_le_iff]

/-- A full list takes no report but a CREDIT that merges (R138). -/
theorem Link.hand_full (l : Link) (r : Report) (h : 64 ≤ l.reports.length) : l.hand r = l := by
  have hr : l.hasRoom 1 = false := decide_eq_false (by unfold Config.reportLimit; omega)
  simp [Link.hand, hr]

/-- Nothing is handed while the link is neither UP nor in COOLDOWN (R155). -/
theorem Link.hand_closed (l : Link) (r : Report) (h : l.state.isOpen = false) : l.hand r = l := by
  simp [Link.hand, h]

/-- Neither returning credits nor handing a report changes the link's state, timers or control list. -/
theorem Link.giveCredit_frame (l : Link) (n : Nat) :
    (l.giveCredit n) = { l with reports := (l.giveCredit n).reports, creditTotal := (l.giveCredit n).creditTotal } := by
  unfold Link.giveCredit
  split_ifs <;> rfl

theorem Link.hand_frame (l : Link) (r : Report) : l.hand r = { l with reports := (l.hand r).reports } := by
  simp only [Link.hand]
  split_ifs <;> rfl

/-! ### Abandoned transfers (R6, R107) -/

/-- Abandoning changes owners only: the transfers at the far port stay the same in number, name and order. -/
theorem State.abandonOwned_ids (s : State) (p : Owner → Bool) :
    ((s.abandonOwned p).mem.outstanding.map fun x => x.id) = s.mem.outstanding.map fun x => x.id := by
  simp only [State.abandonOwned_mem, List.map_map]
  refine List.map_congr_left fun x _ => ?_
  simp only [Function.comp]
  split_ifs <;> rfl

end Sys2Proof.Machine
end

