-- ==== Sys2Proof/Laws/Campaign.lean ====
section
/-! SUPPORT. What the campaign's shared operations do, each in one equation over the states of Safety.lean: the closing steps,
entry to HANDED_OVER, a pass that begins, a set request, and the moves of the walks. -/

namespace Sys2Proof.Machine

/-! ### Ends (R71, R74) -/

/-- Abandoning every copy read abandons the owners of copy reads and no other (R107). -/
theorem State.abandonAll_outstanding (s : State) : s.abandonAll.mem.outstanding = s.mem.withoutCopies := by
  refine List.map_congr_left fun x _ => ?_
  cases h : x.owner <;> simp

theorem State.abandonAll_mem (s : State) :
    s.abandonAll.mem = { s.mem with outstanding := s.mem.withoutCopies } := by
  rw [← State.abandonAll_outstanding]; rfl

@[simp] theorem State.dropWork_mem (s : State) :
    s.dropWork.mem = { s.mem with outstanding := s.mem.withoutCopies } :=
  State.abandonAll_mem { s with txq := s.txq.emptied }

/-- The closing steps leave the ended state (R74). -/
theorem State.close_eq (s : State) (reason : ExitReason) : s.close reason = s.ended reason := by
  have hd : s.dropWork = { s with
      mem := { s.mem with outstanding := s.mem.withoutCopies }
      eng := { s.eng with inFlight := [], demandQueue := [] }
      txq := s.txq.emptied } := by rw [← State.dropWork_mem]; rfl
  simp only [State.close, State.dropMismatches, State.enterIdle, State.enter_eq, State.release_eq, State.ended, hd]
  by_cases h : s.link.state = .up <;> simp [h, State.releasedHolds, State.raiseControl] <;> rfl

/-- Terminating held transfers FAULT frees their tags, answers in the order held, and empties the lock record of a closing
LOCK_WRITE (R10, R43). -/
theorem State.foldl_failHeld (l : List Transfer) (s : State) :
    l.foldl State.failHeld s =
      { s with
        mem := { s.mem with
          tags := Vector.ofFn fun tag =>
            if l.any fun x => x.tag == tag then
              ⟨false, if l.any fun x => x.tag == tag && x.kind == .lockWrite then none else s.mem.tags[tag].lock⟩
            else s.mem.tags[tag]
          nearOut := s.mem.nearOut ++ l.map fun x => ⟨x.tag, .fault⟩ } } := by
  induction l generalizing s with
  | nil => simp
  | cons x l ih =>
    rw [List.foldl_cons, ih]
    simp only [State.failHeld, State.tagRecord, State.setTag, State.answer, List.map_cons, List.append_assoc,
      List.cons_append, List.nil_append]
    congr 2
    ext1 i hi
    simp only [Vector.getElem_ofFn, List.any_cons, Fin.getElem_fin, Vector.getElem_set]
    by_cases hx : x.tag.val = i
    · have hx' : (x.tag == (⟨i, hi⟩ : Fin 16)) = true := by simp [Fin.ext_iff, hx]
      simp only [hx, hx', if_true, Bool.true_or, Bool.true_and]
      by_cases hk : x.kind = .lockWrite
      · simp [hk]
      · simp [hk]
        exact fun h y hy ht => absurd ht (h y hy)
    · have hx' : (x.tag == (⟨i, hi⟩ : Fin 16)) = false := by simp [Fin.ext_iff, hx]
      simp [hx, hx']

/-! ### Set requests (R30, R32) -/

theorem setBit_of_set (m : TileMap) (t : Nat) (h : m.getLsbD t = true) : setBit m t = m := by
  apply BitVec.eq_of_getLsbD_eq
  intro u _
  rw [getLsbD_setBit]
  by_cases hu : t = u
  · subst hu; simp [h]
  · simp [hu]

/-- A set request sets the bit and counts a clear→set transition of a scope COPY tile in W, up to the limit of W. -/
theorem State.setDirty_eq (s : State) (t : Nat) :
    s.setDirty t =
      { s with
        map := setBit s.map t
        conv.w := if s.bit t = false ∧ s.scopeIs .copy t = true then min 1048575 (s.conv.w + 1) else s.conv.w } := by
  unfold State.setDirty
  by_cases h : s.bit t = true
  · simp [h, setBit_of_set s.map t h]
  · simp only [h, satAdd, Config.passCounterLimit]
    by_cases hc : s.scopeIs .copy t = true <;> simp [hc]

/-- Setting tiles dirty one after another changes the map and W alone. -/
theorem State.foldl_dirtied_frame (l : List InFlight) (s : State) :
    l.foldl (fun u e => u.dirtied e.tile) s =
      { s with
        map := (l.foldl (fun u e => u.dirtied e.tile) s).map
        conv.w := (l.foldl (fun u e => u.dirtied e.tile) s).conv.w } := by
  induction l generalizing s with
  | nil => rfl
  | cons e l ih => rw [List.foldl_cons, ih]; rfl

/-- What a run of set requests leaves of the map and of W depends on nothing in the memory path, the write monitor or the
latches. -/
theorem State.foldl_dirtied_map_w (l : List InFlight) (s : State) (m : MemoryPath) (n : WriteMonitor) (x : BitVec 11) :
    let u : State := { s with mem := m, mon := n, mgmt := { s.mgmt with latches := x } }
    (l.foldl (fun u e => u.dirtied e.tile) u).map = (l.foldl (fun u e => u.dirtied e.tile) s).map
      ∧ (l.foldl (fun u e => u.dirtied e.tile) u).conv.w = (l.foldl (fun u e => u.dirtied e.tile) s).conv.w := by
  induction l generalizing s with
  | nil => exact ⟨rfl, rfl⟩
  | cons e l ih => exact ih (s.dirtied e.tile)

/-- The tiles in flight are set dirty one after another (R107). -/
theorem State.dirtyFlying_eq (s : State) :
    s.dirtyFlying = s.eng.inFlight.foldl (fun u e => u.dirtied e.tile) s := by
  rw [State.dirtyFlying, List.foldl_map]
  congr 1
  funext u e
  exact u.setDirty_eq e.tile

/-- Entry to HANDED_OVER leaves the handed-over state (R71, R107). -/
theorem State.enterHandedOver_eq (s : State) (reason : ExitReason) :
    s.enterHandedOver reason = s.handedOver reason := by
  have hd : ∀ u : State, u.dropWork = { u with
      mem := { u.mem with outstanding := u.mem.withoutCopies }
      eng := { u.eng with inFlight := [], demandQueue := [] }
      txq := u.txq.emptied } := fun u => by rw [← State.dropWork_mem]; rfl
  have hf : ∀ (m : MemoryPath) (n : WriteMonitor) (x : BitVec 11),
      State.dirtyFlying { s with mem := m, mon := n, mgmt := { s.mgmt with latches := x } } =
        { s with
          mem := m
          mon := n
          mgmt := { s.mgmt with latches := x }
          map := (s.eng.inFlight.foldl (fun u e => u.dirtied e.tile) s).map
          conv.w := (s.eng.inFlight.foldl (fun u e => u.dirtied e.tile) s).conv.w } := by
    intro m n x
    rw [State.dirtyFlying_eq, State.foldl_dirtied_frame, (s.foldl_dirtied_map_w _ m n x).1,
      (s.foldl_dirtied_map_w _ m n x).2]
  simp only [State.enterHandedOver, State.foldl_failHeld, State.enter_eq, State.handedOver]
  rw [s.foldl_dirtied_frame]
  by_cases h : s.mem.holdList = [] <;> simp [h, hf, hd] <;> rfl

/-! ### Set requests in INSYNC (R65) -/

/-- Outside INSYNC a set request is no more than that (R65). -/
theorem State.markDirty_eq (s : State) (t : Nat) (h : s.camp.state ≠ .insync) : s.markDirty t = s.setDirty t := by
  simp [State.markDirty, h]

/-! ### Passes (R28, R61) -/

/-- A bank switch with no bank pending does nothing. -/
theorem State.switchBank_none (s : State) (h : s.tables.pending = none) : s.switchBank = s := by
  simp [State.switchBank, h]

/-- A bank switch in a running campaign: the regions of the new bank that the old one does not name are entered. -/
theorem State.switchBank_some (s : State) (bank : Bank) (h : s.tables.pending = some bank) (hr : s.runs = true) :
    s.switchBank =
      { s with
        map :=
          let entered := (s.tables.validRegions bank).filter fun r =>
            !((s.tables.validRegions s.tables.active).map fun r => r.1).contains r.1
          s.map ||| policyMask entered .copy ||| policyMask entered .late
        tables := { s.tables with active := bank, pending := none }
        txq := s.txq.join (.plan (s.tables.validRegions bank)) } := by
  have hs : s.scope = s.tables.validRegions s.tables.active := if_pos hr
  simp only [State.switchBank, h, hs]
  rfl

/-- On a sender, a pass that begins in a running state leaves what R28 and R61 say. -/
theorem State.beginPass_begun (s : State) (st : SenderState) (hr : s.mgmt.role = .sender) (h1 : st ≠ .idle)
    (h2 : st ≠ .armed) : s.passBegun (s.beginPass st) st := by
  let u : State := { s.inState st with camp.passNumber := min 65535 (s.camp.passNumber + 1) }
  have hu : s.beginPass st = { u.switchBank with eng.sweep := ⟨0, 0⟩ } := by
    rw [State.beginPass, State.enter_eq]; rfl
  rw [hu]
  cases hp : s.tables.pending with
  | none =>
    rw [State.switchBank_none u hp]
    refine ⟨rfl, rfl, rfl, fun _ => ⟨rfl, rfl, rfl⟩, ?_, rfl, rfl, rfl, rfl, rfl, rfl, rfl, rfl⟩
    intro b hb; simp [hp] at hb
  | some bank =>
    rw [State.switchBank_some u bank hp (by simp [u, State.runs, State.inState, hr, h1, h2])]
    refine ⟨rfl, rfl, rfl, fun h => by simp [hp] at h, ?_, rfl, rfl, rfl, rfl, rfl, rfl, rfl, rfl⟩
    intro b hb
    obtain rfl : bank = b := by simpa [hp] using hb
    refine ⟨rfl, rfl, fun tile => ?_⟩
    simp only [State.bit, BitVec.getLsbD_or, getLsbD_policyMask, u, State.inState, Bool.or_assoc, ← Bool.and_or_distrib_left]
    congr 2
    have hsym : ∀ r : Nat × Region, ((s.tables.validRegions s.tables.active).any fun q => r.1 == q.1)
        = (s.tables.validRegions s.tables.active).any fun q => q.1 == r.1 :=
      fun r => congrArg _ (funext fun q => BEq.comm)
    rw [Bool.eq_iff_iff]
    simp only [Bool.or_eq_true, List.any_eq_true, List.mem_filter, Bool.and_eq_true, beq_iff_eq, Bool.not_eq_true',
      List.contains_eq_any_beq, List.any_map, Function.comp_def, hsym]
    constructor
    · rintro (⟨r, ⟨hm, hn⟩, hp, ht⟩ | ⟨r, ⟨hm, hn⟩, hp, ht⟩)
      · exact ⟨r, hm, ⟨.inl hp, ht⟩, hn⟩
      · exact ⟨r, hm, ⟨.inr hp, ht⟩, hn⟩
    · rintro ⟨r, hm, ⟨hp | hp, ht⟩, hn⟩
      · exact .inl ⟨r, ⟨hm, hn⟩, hp, ht⟩
      · exact .inr ⟨r, ⟨hm, hn⟩, hp, ht⟩

/-! ### The walks (R97, R169) -/

/-- The audit walk's move changes the walk and its done flag alone. -/
theorem State.moveAudit_frame (fuel : Nat) (s : State) : s.moveAudit fuel =
    { s with aud.walk := (s.moveAudit fuel).aud.walk, aud.walkDone := (s.moveAudit fuel).aud.walkDone } := by
  induction fuel generalizing s with
  | zero => rfl
  | succ n ih =>
    unfold State.moveAudit
    split
    · rfl
    · split
      · rw [ih]
      · split
        · rfl
        · rw [ih]

/-- Asking the audit walk changes the walk and its done flag alone. -/
theorem State.askAudit_frame (s : State) :
    s.askAudit = { s with aud.walk := s.askAudit.aud.walk, aud.walkDone := s.askAudit.aud.walkDone } := by
  unfold State.askAudit
  split
  · exact s.moveAudit_frame _
  · rfl

/-- The sweep walk's move changes its position and, through REGION_END, the event line and tally alone. -/
theorem State.moveSweep_frame (fuel : Nat) (s : State) : s.moveSweep fuel =
    { s with eng.sweep := (s.moveSweep fuel).eng.sweep, mgmt := (s.moveSweep fuel).mgmt } := by
  induction fuel generalizing s with
  | zero => rfl
  | succ n ih =>
    unfold State.moveSweep
    split
    · rfl
    · split
      · rw [ih]; rfl
      · split
        · rfl
        · rename_i r _ _
          rw [ih]
          unfold State.endVisit
          split <;> rfl

/-- Before a choice the walks move and nothing else changes but through REGION_END. -/
theorem State.moveWalks_frame (s : State) : s.moveWalks =
    { s with
      eng.sweep := s.moveWalks.eng.sweep
      aud.walk := s.moveWalks.aud.walk
      aud.walkDone := s.moveWalks.aud.walkDone
      mgmt := s.moveWalks.mgmt } := by
  unfold State.moveWalks
  split
  · split
    · rw [State.moveSweep_frame]
    · rw [State.moveSweep_frame]
    · rw [State.askAudit_frame]
    · rfl
  · rfl

end Sys2Proof.Machine
end

