-- ==== Sys2Proof/Laws/PerInstr.lean ====
section
/-! SUPPORT. A law proved command by command: the argument bytes of every message a command can be number at most 255, so the
length byte of its message says their number (R185). -/

namespace Sys2Proof.Laws.MessageFits

/-- The argument bytes of the command's message, where it has one, can be counted in one byte. -/
def Statement (i : Instr) : Prop :=
  ∀ parts, Machine.commandParts i = some parts → wellFormed i = true → parts.2.length ≤ 255

theorem leBytes_length : ∀ k n : Nat, (Machine.leBytes k n).length = k
  | 0, _ => rfl
  | k + 1, n => congrArg (· + 1) (leBytes_length k (n / 256))

/-- A command that is no message. -/
theorem statement_of_none {i : Instr} (h : Machine.commandParts i = none) : Statement i := by
  intro parts hp
  rw [h] at hp
  cases hp

/-- A message whose argument bytes do not depend on how long an operand is. -/
theorem statement_of_some {i : Instr} {p : Byte × List Byte} (h : Machine.commandParts i = some p)
    (hl : p.2.length ≤ 255) : Statement i := by
  intro parts hp _
  rw [h] at hp
  cases hp
  exact hl

theorem nearTransfer (tag : Fin 16) (kind : XferKind) (addr : Addr) (mask : Mask) (data : Line) : Statement (.nearTransfer tag kind addr mask data) :=
  statement_of_none rfl
theorem arbiterGrant : Statement .arbiterGrant := statement_of_none rfl
theorem farTermination (id : Nat) (term : Term) : Statement (.farTermination id term) := statement_of_none rfl
theorem pairHoldExpiry (tag : Fin 16) : Statement (.pairHoldExpiry tag) := statement_of_none rfl
theorem stallLimitExpiry : Statement .stallLimitExpiry := statement_of_none rfl
theorem setRole (role : Byte) : Statement (.setRole role) := statement_of_some rfl (by simp)
theorem setSize (size : BitVec 32) : Statement (.setSize size) := statement_of_some rfl (by simp [leBytes_length])
theorem setIdentity (identity : BitVec 64) : Statement (.setIdentity identity) :=
  statement_of_some rfl (by simp [leBytes_length])
theorem loadRegion (region : Byte) (base count : BitVec 32) (policy regionEnd : Byte) : Statement (.loadRegion region base count policy regionEnd) :=
  statement_of_some rfl (by simp [leBytes_length])
theorem clearRegion (region : Byte) : Statement (.clearRegion region) := statement_of_some rfl (by simp)
theorem selectBank (bank : Byte) : Statement (.selectBank bank) := statement_of_some rfl (by simp)
theorem setTuning (args : TuningArgs) : Statement (.setTuning args) :=
  statement_of_some rfl (by simp [leBytes_length, Machine.tuningArgBytes])
theorem setShare (share : Byte) : Statement (.setShare share) := statement_of_some rfl (by simp)
theorem setLines (cueMode paceEnable eventMask : Byte) (alertMask : BitVec 16) : Statement (.setLines cueMode paceEnable eventMask alertMask) :=
  statement_of_some rfl (by simp [leBytes_length])
theorem setLink (enable blanking offTime relink : Byte) (peerWait : BitVec 16) : Statement (.setLink enable blanking offTime relink peerWait) :=
  statement_of_some rfl (by simp [leBytes_length])
theorem arm : Statement .arm := statement_of_some rfl (by decide)
theorem disarm : Statement .disarm := statement_of_some rfl (by decide)
theorem start : Statement .start := statement_of_some rfl (by decide)
theorem breakCmd : Statement .breakCmd := statement_of_some rfl (by decide)
theorem resumeCmd : Statement .resumeCmd := statement_of_some rfl (by decide)
theorem abort (kind : Byte) : Statement (.abort kind) := statement_of_some rfl (by simp)
theorem handover : Statement .handover := statement_of_some rfl (by decide)
theorem clearLatches (conditions : BitVec 16) : Statement (.clearLatches conditions) :=
  statement_of_some rfl (by simp [leBytes_length])
theorem readStatus : Statement .readStatus := statement_of_some rfl (by decide)
theorem readCounters : Statement .readCounters := statement_of_some rfl (by decide)
theorem readRegion (region : Byte) : Statement (.readRegion region) := statement_of_some rfl (by simp)
theorem readBank (bank : Byte) : Statement (.readBank bank) := statement_of_some rfl (by simp)
theorem readFaults : Statement .readFaults := statement_of_some rfl (by decide)
theorem readExit : Statement .readExit := statement_of_some rfl (by decide)
theorem softReset : Statement .softReset := statement_of_some rfl (by decide)
theorem powerOn (straps : BitVec 3) : Statement (.powerOn straps) := statement_of_none rfl
theorem warmReset : Statement .warmReset := statement_of_none rfl
theorem cueEdge (rising : Bool) : Statement (.cueEdge rising) := statement_of_none rfl
theorem paceChange (high : Bool) : Statement (.paceChange high) := statement_of_none rfl
theorem startDelayExpiry : Statement .startDelayExpiry := statement_of_none rfl
theorem planWaitExpiry : Statement .planWaitExpiry := statement_of_none rfl
theorem settleExpiry : Statement .settleExpiry := statement_of_none rfl
theorem passEnd : Statement .passEnd := statement_of_none rfl
theorem passClose : Statement .passClose := statement_of_none rfl
theorem auditPassEnd : Statement .auditPassEnd := statement_of_none rfl
theorem heldRegionQuiet : Statement .heldRegionQuiet := statement_of_none rfl
theorem freezeRegionComplete : Statement .freezeRegionComplete := statement_of_none rfl
theorem handoverQueued : Statement .handoverQueued := statement_of_none rfl
theorem holdBudgetExpiry : Statement .holdBudgetExpiry := statement_of_none rfl
theorem endingClose : Statement .endingClose := statement_of_none rfl
theorem peerWaitExpiry : Statement .peerWaitExpiry := statement_of_none rfl
theorem resumeRepeat : Statement .resumeRepeat := statement_of_none rfl
theorem resumeWaitExpiry : Statement .resumeWaitExpiry := statement_of_none rfl
theorem hello (body : HelloBody) : Statement (.hello body) := statement_of_none rfl
theorem keepalive (total : Seq) : Statement (.keepalive total) := statement_of_none rfl
theorem planAck (number : Seq) : Statement (.planAck number) := statement_of_none rfl
theorem planRefuse (reason : Byte) : Statement (.planRefuse reason) := statement_of_none rfl
theorem resumeAck (number : Seq) : Statement (.resumeAck number) := statement_of_none rfl
theorem resumeRefuse (number : Seq) : Statement (.resumeRefuse number) := statement_of_none rfl
theorem applied (seq : Seq) : Statement (.applied seq) := statement_of_none rfl
theorem gap (seq : Seq) : Statement (.gap seq) := statement_of_none rfl
theorem applyTimeout : Statement .applyTimeout := statement_of_none rfl
theorem faulted (seq : Seq) (tile : BitVec 32) : Statement (.faulted seq tile) := statement_of_none rfl
theorem digestResult (seq : Seq) (tile : BitVec 32) (result : Byte) : Statement (.digestResult seq tile result) :=
  statement_of_none rfl
theorem demand (tile : BitVec 32) : Statement (.demand tile) := statement_of_none rfl
theorem credit (count : Byte) : Statement (.credit count) := statement_of_none rfl
theorem badFrame : Statement .badFrame := statement_of_none rfl
theorem undefinedFrame (kind : Byte) (content : List Byte) : Statement (.undefinedFrame kind content) :=
  statement_of_none rfl
theorem beginFrame (number : Seq) (identity : BitVec 64) (first : Seq) : Statement (.beginFrame number identity first) :=
  statement_of_none rfl
theorem resumeFrame (number next : Seq) : Statement (.resumeFrame number next) := statement_of_none rfl
theorem abandon (reason : Byte) : Statement (.abandon reason) := statement_of_none rfl
theorem resync (number sentTotal : Seq) : Statement (.resync number sentTotal) := statement_of_none rfl
theorem orderedFrameArrival (seq : Seq) (body : OrderedBody) : Statement (.orderedFrameArrival seq body) :=
  statement_of_none rfl
theorem applierTake : Statement .applierTake := statement_of_none rfl
theorem demandWaitExpiry (tile : Nat) : Statement (.demandWaitExpiry tile) := statement_of_none rfl
theorem transmit : Statement .transmit := statement_of_none rfl
theorem keepaliveDue : Statement .keepaliveDue := statement_of_none rfl
theorem helloTimerExpiry : Statement .helloTimerExpiry := statement_of_none rfl
theorem blankingHelloTimer : Statement .blankingHelloTimer := statement_of_none rfl
theorem lossOfSignal (lane : Fin 2) : Statement (.lossOfSignal lane) := statement_of_none rfl
theorem silenceExpiry : Statement .silenceExpiry := statement_of_none rfl
theorem quietTimeExpiry : Statement .quietTimeExpiry := statement_of_none rfl
theorem laneSignal : Statement .laneSignal := statement_of_none rfl
theorem trained : Statement .trained := statement_of_none rfl
theorem blankingEnd : Statement .blankingEnd := statement_of_none rfl
theorem offTimeEnd : Statement .offTimeEnd := statement_of_none rfl
theorem evtPulseEnd : Statement .evtPulseEnd := statement_of_none rfl
theorem evtGuardEnd : Statement .evtGuardEnd := statement_of_none rfl
theorem resetNHigh : Statement .resetNHigh := statement_of_none rfl

/-- LOAD_BANK's bank and count take two bytes beside the entries. -/
theorem loadBank (bank : Byte) (entries : List Byte) : Statement (.loadBank bank entries) := by
  intro parts hp hw
  simp only [wellFormed, decide_eq_true_eq] at hw
  cases hp
  simp only [List.length_cons]
  omega

/-- The arguments of a message that names no command are as many as its length byte says. -/
theorem unknownCommand (code : Byte) (args : List Byte) : Statement (.unknownCommand code args) := by
  intro parts hp hw
  simp only [wellFormed, Bool.and_eq_true, decide_eq_true_eq] at hw
  cases hp
  exact hw.1

end Sys2Proof.Laws.MessageFits
end

