-- ==== Sys2Proof/Laws/Receiver.lean ====
section
/-! SUPPORT. What the end of a frame's application and the joins of the transmit queue leave, each said once. -/

namespace Sys2Proof.Machine

/-! ### The end of a frame's application (R158, R163) -/

theorem Receiver.frames_eq_zero (r : Receiver) : r.frames = 0 ↔ ∀ x ∈ r.buffer, x.isFrame = false := by
  simp [Receiver.frames, List.filter_eq_nil_iff]

/-- APPLIED is due at the 16th frame since the last one, or when no frame waits. -/
theorem State.appliedDue_iff (s : State) :
    s.appliedDue = true ↔ 16 ≤ s.rx.appliedCount + 1 ∨ ∀ x ∈ s.rx.buffer, x.isFrame = false := by
  simp [State.appliedDue, Config.appliedEvery, Receiver.frames_eq_zero]

/-- While the link is open and the report list has two free places, a frame is applied with its report and the APPLIED that
is due. -/
theorem State.finishFrame_eq (s : State) (a : Applying) (ha : a.silent = false) (ho : s.link.state.isOpen = true)
    (hr : s.link.reports.length + 2 ≤ 64) (hn : ∀ r, a.report = some r → r.isApplied = false) :
    s.finishFrame a = s.appliedNow a.seq a.report := by
  have hh : ∀ (l : Link), l.state = s.link.state → l.reports.length < 64 →
      l.hand (.applied a.seq) = { l with reports := (l.reports.filter fun r => !r.isApplied) ++ [.applied a.seq] } := by
    intro l h1 h2
    have h4 : ((Report.applied a.seq).isApplied) = true := rfl
    have h5 : l.hasRoom 1 = true := decide_eq_true (by unfold Config.reportLimit; omega)
    simp [Link.hand, h1, ho, h4, h5]
  have hdue := s.appliedDue_iff
  simp only [State.finishFrame, State.appliedNow, ha, Bool.false_eq_true, if_false]
  cases hrep : a.report with
  | none =>
    by_cases hd : s.appliedDue = true
    · rw [if_pos hd, if_pos (hdue.mp hd)]
      simp [State.hand, hh s.link rfl (by omega)]
    · rw [if_neg hd, if_neg (fun h => hd (hdue.mpr h))]
      simp
  | some r =>
    have e : s.link.hand r = { s.link with reports := s.link.reports ++ [r] } := by
      rw [Link.hand_open s.link r ho (hn r hrep), Link.reported, if_pos (by omega)]
    by_cases hd : s.appliedDue = true
    · rw [if_pos hd, if_pos (hdue.mp hd)]
      simp [e, State.hand, hh { s.link with reports := s.link.reports ++ [r] } rfl (by simp; omega)]
    · rw [if_neg hd, if_neg (fun h => hd (hdue.mpr h))]
      simp [e]

/-- A frame that met a link loss is applied with nothing handed, and counts (R155, R163). -/
theorem State.finishFrame_silent (s : State) (a : Applying) (ha : a.silent = true) :
    s.finishFrame a = { s with rx.applying := none, rx.appliedCount := s.rx.appliedCount + 1 } := by
  simp [State.finishFrame, ha]

/-! ### The queue's law -/

theorem State.queueLaw_append (s : State) (h : s.QueueLaw) (hr : s.txq.queue.length < 256) (b : TxBody) :
    State.QueueLaw { s with txq := s.txq.append b } := by
  obtain ⟨h1, h2, h3, h4⟩ := h
  refine ⟨by simp; omega, fun _ => by simpa using h2 hr, ?_, ?_⟩
  · simp only [TxQueue.append_queue, List.map_append, List.map_cons, List.map_nil]
    rw [List.nodup_append]
    refine ⟨h3, by simp, ?_⟩
    intro a ha b hb
    obtain ⟨e, he, rfl⟩ := List.mem_map.mp ha
    have := h4 e he
    simp at hb; omega
  · intro e he
    simp only [TxQueue.append_queue, List.mem_append, List.mem_singleton] at he
    rcases he with he | rfl
    · have := h4 e he; simp; omega
    · simp

/-- A join keeps the queue's law (R113, R114). -/
theorem State.queueLaw_join (s : State) (h : s.QueueLaw) (b : TxBody) :
    State.QueueLaw { s with txq := s.txq.join b } := by
  rcases s.txq.join_cases b with ⟨h1, _, e⟩ | ⟨h1, e⟩
  · rw [e]; exact s.queueLaw_append h h1 b
  · rw [e]
    obtain ⟨g1, g2, g3, g4⟩ := h
    refine ⟨g1, fun hl => ?_, g3, g4⟩
    rcases h1 with h1 | h1
    · exact absurd h1 (by simpa using hl)
    · exact absurd (g2 hl) h1

end Sys2Proof.Machine
end

