-- ==== Sys2Proof/Tests/Slice0.lean ====
section
/-! SUPPORT. Tests. Expected values come from the manual's rules, tables and example, by hand. The theorems test_meets_… show,
for a statement of Certificates/Slice0/Obligations.lean with hypotheses, concrete states and operands that meet them, clause
by clause, with one thing the command then does. -/

namespace Sys2Proof.Tests

open Sys2Proof Sys2Proof.Machine

set_option Elab.async false

/-! ### Small states -/

/-- The state a command leaves. -/
def after (c : Instr) (s : State) : State :=
  match exec c s with
  | .next t => t
  | .fault _ => s
  | .refused _ => s

/-- The reply a command leaves. -/
def replyTo (c : Instr) (s : State) : Reply := (after c s).mgmt.reply

/-- Region 0: COPY, tiles 10 and 11, with region end. Region 1: LATE, tile 20. Region 2: ZERO, tiles 30 and 31. Region 3:
SKIP, the last tile of the window. Bank A: 0, 1, 0. Bank B: 1, 2. -/
def tabs : Tables where
  regions := Vector.ofFn fun i => match i.val with
    | 0 => some ⟨10, 2, .copy, true⟩
    | 1 => some ⟨20, 1, .late, false⟩
    | 2 => some ⟨30, 2, .zero, false⟩
    | 3 => some ⟨131071, 1, .skip, false⟩
    | _ => none
  bankA := [0, 1, 0]
  bankB := [1, 2]
  active := .bankA
  pending := none

/-- A peer of a given role in its state 1. -/
def peer (r : Role) : PeerRecord := ⟨r, 88, 131072, 5, 1, 0⟩

/-- A link in a state, with the timers of that state. -/
def linkIn (st : LinkState) (p : Option PeerRecord) : Link :=
  { Link.reset with
    state := st
    quiet := none
    silence := if st = .down then none else some 5000
    blanking := if st = .blanking then some 50000 else none
    offTime := if st = .cooldown then some 1000 else none
    hello := if st.isOpen then some 100000 else none
    peer := p }

/-- A sender in a campaign state with campaign number 5, its link UP. -/
def snd (st : SenderState) : State :=
  { State.reset with
    tables := tabs
    camp := { Campaign.reset with state := st, number := 5, peerIdentity := 88 }
    txq := { TxQueue.reset with credits := 128 }
    link := linkIn .up (some (peer .receiver))
    mgmt := { Management.reset with role := .sender } }

/-- A receiver in a state that holds campaign 5, its link UP. -/
def rcv (st : ReceiverState) : State :=
  { State.reset with
    tables := tabs
    link := linkIn .up (some (peer .sender))
    rx := { Receiver.reset with state := st, held := 5, seen := 7 } }

/-- A state with the bits of the listed tiles set. -/
def withBits (s : State) (ts : List Nat) : State := { s with map := listMask ts }

/-- A transfer queued for the far port. -/
def queued (s : State) (x : Transfer) : State := { s with mem.queue := [x] }

/-- A transfer outstanding at the far port, with number 0. -/
def issued (s : State) (o : Owner) (k : XferKind) (a : Addr) : State :=
  { s with mem.outstanding := [⟨0, o, k, a, 0xffff, 0⟩], mem.nextId := 1 }

/-- A transmit queue of 256 entries. -/
def fullQueue : TxQueue :=
  { TxQueue.reset with queue := (List.range 256).map fun n => ⟨n, .quarantine n, 0⟩, nextEntry := 256, credits := 128 }

/-- A COPY entry of tile 10 with every line issued. -/
def flying : InFlight := { InFlight.new 10 .copy with issued := 512 }

/-- A WRITE of the beat at a tile's base. -/
def writeTo (tile : Nat) : Transfer := ⟨3, .write, lineAddr tile 0, 0xffff, 7⟩

/-! ### Well-formedness: one ill-formed term for each check -/

theorem test_beat_of_17_bytes_refused :
    wellFormed (.nearTransfer 0 .write 0 1 (BitVec.twoPow 512 128)) = false := by decide +kernel
theorem test_bank_of_254_bytes_refused : wellFormed (.loadBank 0 (List.replicate 254 0)) = false := by decide +kernel
theorem test_known_command_is_not_unknown : wellFormed (.unknownCommand 0x30 []) = false := by decide
theorem test_unknown_command_too_long : wellFormed (.unknownCommand 0x99 (List.replicate 256 0)) = false := by
  decide +kernel
theorem test_defined_frame_is_not_undefined : wellFormed (.undefinedFrame 0x29 [1]) = false := by decide
theorem test_line_mirror_with_mask_refused :
    wellFormed (.orderedFrameArrival 0 (.mirror 0 true 1 0)) = false := by decide
theorem test_beat_mirror_of_17_bytes_refused :
    wellFormed (.orderedFrameArrival 0 (.mirror 0 false 1 (BitVec.twoPow 512 128))) = false := by decide +kernel
theorem test_demand_wait_outside_window_refused : wellFormed (.demandWaitExpiry 131072) = false := by decide

/-! ### Formats (chapter 12) -/

/-- The manual's example: LOAD_BANK for bank B with regions 0, 3, 4. -/
theorem test_example_message : messageCommand [0x12, 0x05, 0x01, 0x03, 0x00, 0x03, 0x04] = .loadBank 1 [0, 3, 4] := by
  decide
/-- The manual's example: it is answered 00h, 00h, 00h. -/
theorem test_example_reply : replyBytes (replyTo (.loadBank 1 [0, 3, 4]) State.reset) = [0, 0, 0] := by decide +kernel
/-- R185: a LOAD_BANK whose length is not 2 plus its count is no command. -/
theorem test_bank_length : messageCommand [0x12, 0x03, 0x01, 0x02, 0x00] = .unknownCommand 0x12 [1, 2, 0] := by decide
/-- The family's check value of CRC-32, over the nine digits 1 to 9. -/
theorem test_crc_check : crc32 [0x31, 0x32, 0x33, 0x34, 0x35, 0x36, 0x37, 0x38, 0x39] = 0xcbf43926#32 := by decide +kernel
/-- R184: a CREDIT of two bytes is undefined, whatever its CRC. -/
theorem test_wrong_length : goodCommand 0x29 [1, 2] = .undefinedFrame 0x29 [1, 2] := by decide
theorem test_no_word_spells_a_command : decodeTableWord 8 0x30 = none := rfl

/-! ### Arithmetic (chapters 5 and 10) -/

/-- R85: 300 writes to 100 copies. R86: the mean of 768 and 257, rounded half up. -/
theorem test_pass_ratio : passRatio 100 300 = 768 ∧ passRatio 0 1 = 1023 ∧ passRatio 0 0 = 0 ∧ passRatio 1 9 = 1023
    ∧ smooth 768 true 257 = 513 ∧ smooth 9 false 257 = 257 := by decide
/-- R167 on the two units 1, 2: A = 3, B = 1 + 3 = 4. -/
theorem test_digest_unit : [1, 2].foldl digestUnit (0, 0) = (3, 4) := by decide
/-- R58: after 65535 comes 1. -/
theorem test_number_skips_zero : nextNumber 0xffff = 1 ∧ nextNumber 5 = 6 := by decide

/-! ### Commands, one field of one step each -/

/-- R22: the last region number and the last tile are in range, region 32 is not. -/
theorem test_region_bounds : (replyTo (.loadRegion 31 131071 1 0 1) State.reset).status = .ok
    ∧ (replyTo (.loadRegion 32 0 1 0 1) State.reset).status = .range
    ∧ (replyTo (.loadRegion 0 131071 2 0 1) State.reset).status = .range := by decide +kernel
/-- R175, R177: a hold budget of 50 is taken as 100. -/
theorem test_tuning_clamps :
    (after (.setTuning ⟨0, 0, 50, 1, 1, 256, 30, 0, 224, 8, 48, 0, 50, 5, 20⟩) State.reset).cfg.holdBudget = 100
    ∧ (replyTo (.setTuning ⟨0, 0, 50, 1, 1, 256, 30, 0, 224, 8, 48, 0, 50, 5, 20⟩) State.reset).status = .clamped := by
  decide +kernel
/-- R176: SET_SIZE clamps 0 to 1. -/
theorem test_size_clamps : replyTo (.setSize 0) State.reset = ⟨.clamped, [1, 0, 0, 0]⟩ := by decide +kernel
/-- R178: a receiver's status begins with role 02h and state 00h. -/
theorem test_status_begins : (replyTo .readStatus State.reset).data.take 5 = [2, 0, 0, 0, 0] := by decide +kernel
/-- R78: no campaign has ended since power-on. -/
theorem test_exit_at_reset : replyTo .readExit State.reset = ⟨.ok, List.replicate 16 0⟩ := by decide +kernel
/-- R14, R16: an internal grant against waiting board traffic costs one of the 16 credits of the frame. -/
theorem test_contested_grant_costs_one :
    (after .arbiterGrant (queued (withBits (snd .sweep) [10]) (writeTo 50))).mem.credit = 15 := by decide +kernel
/-- R31, R100: beginning a copy clears its tile's bit and issues line 0. -/
theorem test_begin_clears_bit : (after .arbiterGrant (withBits (snd .sweep) [11])).map = 0
    ∧ (after .arbiterGrant (withBits (snd .sweep) [11])).mem.outstanding
      = [⟨0, .copy 11 0, .readLine, 0x58000, 0, 0⟩] := by decide +kernel
/-- R47: a write to a clean scope tile in MIRROR appends a PENDING MIRROR. -/
theorem test_mirror_is_appended : (after .arbiterGrant (queued (snd .mirror) (writeTo 10))).txq.queue
    = [⟨0, .mirror 3 false 0x50000 false 0xffff 7, 0⟩] := by decide +kernel
/-- R119: the count never exceeds 128. -/
theorem test_credit_saturates : (after (.credit 128) { snd .sweep with txq.credits := 1 }).txq.credits = 128
    ∧ (after (.credit 129) { snd .sweep with txq.credits := 1 }).txq.credits = 1 := by decide +kernel
/-- R133: the fourth bad frame in a row gives COOLDOWN. -/
theorem test_fourth_bad_frame : (after .badFrame { rcv .idle with link.burst := 3 }).link.state = .cooldown
    ∧ (after .badFrame { rcv .idle with link.burst := 2 }).link.state = .up := by decide +kernel
/-- R156: the second frame out of sequence has no GAP of its own. -/
theorem test_one_gap : (after (.orderedFrameArrival 9 .syncMark) (rcv .receiving)).link.reports = [.credit 1, .gap 7]
    ∧ (after (.orderedFrameArrival 9 .syncMark) (after (.orderedFrameArrival 9 .syncMark) (rcv .receiving))).link.reports
      = [.credit 2, .gap 7] := by decide +kernel
/-- R165: a ninth demand finds no room, and the read is answered RETRY all the same. -/
theorem test_ninth_demand :
    (after (.nearTransfer 0 .read 0x50000 0xffff 0)
      { rcv .receiving with rx.demands := (List.range 8).map fun n => ⟨n, some 1⟩ }).rx.demands.length = 8
    ∧ (after (.nearTransfer 0 .read 0x50000 0xffff 0)
      { rcv .receiving with rx.demands := (List.range 8).map fun n => ⟨n, some 1⟩ }).mem.nearOut = [⟨0, .retry⟩] := by
  decide +kernel
/-- R180: an event selected during the guard falls due after it. -/
theorem test_guard_then_pulse : (after .evtGuardEnd { State.reset with mgmt.evt := .guarding true }).mgmt.evt = .pulsing
    ∧ (EvtLine.guarding false).select = .guarding true := by decide +kernel

/-- R107: a tile in flight is dirty in the map that HANDED_OVER keeps, and R33's count of it stands in the exit record. -/
theorem test_handed_over_dirties_flight :
    (let s := after (.abort 0) { snd .drain with camp.handoverSent := true, eng.inFlight := [flying] };
      s.bit 10 = true ∧ s.eng.inFlight = [] ∧ s.camp.exit.dirtyD = 1) := by decide +kernel
/-- R127: PEER_CHANGED empties the queue before the new plan joins it. -/
theorem test_peer_changed_empties_queue :
    (after (.hello ⟨2, 99, 131072, 5, 2, 0⟩) { snd .stalled with
      camp.peerWait := some 1, txq := { TxQueue.reset with queue := [⟨0, .quarantine 10, 0⟩], nextEntry := 1 } }).txq.queue
      = [⟨1, .plan [(0, ⟨10, 2, .copy, true⟩), (1, ⟨20, 1, .late, false⟩)], 0⟩] := by decide +kernel
/-- R141: the return to UP acts on a departure that was reported in COOLDOWN, and on no earlier HELLO. -/
theorem test_departure_in_cooldown :
    (let s := { snd .sweep with link := linkIn .cooldown (some { peer .receiver with state := 0 }) };
      (after .offTimeEnd s).link.state = .up
      ∧ (after .offTimeEnd (after (.hello ⟨2, 88, 131072, 5, 0, 0⟩) s)).link.state = .down
      ∧ (after .offTimeEnd (after (.hello ⟨2, 88, 131072, 5, 1, 0⟩) (after (.hello ⟨2, 88, 131072, 5, 0, 0⟩) s))).link.state
        = .up) := by decide +kernel
/-- R169: with every demand discarded in the grant, the audit walk passes over the quarantined tile 10 to tile 11. -/
theorem test_audit_walk_asked_in_the_grant :
    ((after .arbiterGrant { withBits (snd .audit) [10] with
      eng.demandQueue := [20], eng.faults := [⟨10, 2, true⟩] }).eng.inFlight.map fun e => (e.tile, e.kind)) = [(11, .audit)] := by
  decide +kernel
/-- R168: the audit walk begins at the first COPY region of the bank, here the third place. -/
theorem test_audit_walk_begins_at_copy :
    (after .passClose { snd .mirror with tables.bankA := [1, 2, 1, 0] }).aud.walk = ⟨2, 0⟩ := by decide +kernel
/-- R172: a link loss drops the mismatch count of the audit pass in progress. -/
theorem test_loss_drops_mismatches : (after (.lossOfSignal 0) { snd .audit with aud.mismatch := 3 }).aud.mismatch = 0 := by
  decide +kernel
/-- R173: after a first failed read that found reads waiting, a second failure ends the frame with the last read. -/
theorem test_two_failed_digest_reads :
    (after (.farTermination 0 .fault) { issued (rcv .receiving) (.apply 1) .readLine 0 with
      rx.applying := some { Applying.start 7 (.digest 10 5) with total := 512, issued := 3, done := 1, waiting := [0] }
      }).link.reports = [.digestResult 7 10 1, .applied 7]
    ∧ (after (.farTermination 0 .fault) { issued (rcv .receiving) (.apply 1) .readLine 0 with
      rx.applying := some { Applying.start 7 (.digest 10 5) with total := 2, issued := 3, done := 1, failed := true }
      }).link.reports = [.digestResult 7 10 1, .applied 7] := by decide +kernel
/-- R184: a PLAN whose base tile is above 131,071 adds no record. -/
theorem test_plan_base_outside_window :
    (after .applierTake { rcv .idle with rx.buffer := [.frame 7 (.plan 1 131072 1 0 0)] }).rx.planRecords = [] := by
  decide +kernel
/-- R130: the training pattern goes out in DOWN once the quiet time is over on an enabled link, and in TRAINING. -/
theorem test_lanes : State.reset.lanes = .quiet ∧ State.lanes { State.reset with link.quiet := none } = .pattern
    ∧ State.lanes { State.reset with link.quiet := none, cfg.linkEnable := false } = .quiet
    ∧ State.lanes { State.reset with link.state := .training } = .pattern ∧ (snd .idle).lanes = .frames := by decide +kernel

/-! ### Hypotheses met: the part as a whole -/

theorem test_meets_StepRunsFrontCommand : State.reset.pending = [] := rfl

theorem test_meets_NothingIsTakenInReset : ({ State.reset with mgmt.inReset := true } : State).mgmt.inReset = true
    ∧ (commandParts .arm).isSome = true := by decide

theorem test_meets_RefusedCommandsChangeOnlyTheReply : (commandParts .arm).isSome = true
    ∧ State.reset.mgmt.inReset = false ∧ (replyTo .arm State.reset).status = .role := by decide +kernel

theorem test_meets_CampaignCommandsByState :
    (State.reset.mgmt.inReset = false ∧ State.reset.mgmt.role = .receiver)
    ∧ ((snd .idle).mgmt.inReset = false ∧ (snd .idle).mgmt.role = .sender ∧ (replyTo .arm (snd .idle)).status = .ok
      ∧ (after .arm (snd .idle)).camp.state = .armed ∧ (replyTo .resumeCmd (snd .idle)).status = .busy
      ∧ (replyTo .start (snd .idle)).status = .busy ∧ (replyTo .handover (snd .idle)).status = .busy)
    ∧ ((replyTo .arm (snd .ending)).status = .busy ∧ (replyTo .disarm (snd .ending)).status = .busy
      ∧ (replyTo .breakCmd (snd .ending)).status = .busy)
    ∧ ((after .disarm (snd .handedOver)).camp.state = .idle ∧ (replyTo .resumeCmd (snd .ending)).status = .ok
      ∧ (after .breakCmd (snd .audit)).camp.breakFlag = true) := by decide +kernel

/-! ### Hypotheses met: the invariants -/

theorem test_meets_StepKeepsRangesAndSaturation : State.reset.InRange ∧ State.reset.Saturated := by
  unfold State.InRange Settings.InRange State.Saturated
  refine ⟨by decide +kernel, by decide, by decide, by decide, by decide, by decide, by decide, by decide, ?_⟩
  intro p h; cases h

theorem test_meets_StepKeepsTablesToSize : (snd .sweep).SenderFits ∧ (rcv .insync).ReceiverFits := by
  unfold State.SenderFits State.ReceiverFits; decide +kernel

theorem test_meets_StepKeepsLinkConsistent : (snd .sweep).LinkConsistent ∧ State.reset.LinkConsistent := by
  unfold State.LinkConsistent; decide +kernel

theorem test_meets_StepKeepsTagsAccounted :
    (after (.nearTransfer 3 .write 0x50000 0xffff 7) (snd .sweep)).TagsAccounted := by
  unfold State.TagsAccounted State.IdsFresh; decide +kernel

theorem test_meets_StepKeepsSyncLaw : (snd .insync).RoleLaw ∧ (snd .insync).SyncLaw := by
  refine ⟨by unfold State.RoleLaw; decide +kernel, fun _ _ t _ _ => ⟨?_, rfl⟩⟩
  exact BitVec.getLsbD_zero

theorem test_meets_StepKeepsHoldLaw :
    State.HoldLaw { snd .drain with mon.drainHold := true, mem.holdList := [writeTo 10] } := by
  unfold State.HoldLaw; decide +kernel

theorem test_meets_StepKeepsQueueLaw : State.PendingLaw { snd .settle with tables.pending := some .bankB }
    ∧ State.QueueLaw { snd .mirror with txq := { fullQueue with backlog := [.syncMark true] } } := by
  unfold State.PendingLaw State.QueueLaw; decide +kernel

theorem test_meets_StepKeepsQueueLaw_joins : TxQueue.reset.join .handover = TxQueue.reset.append .handover
    ∧ (fullQueue.join (.syncMark true)).backlog = [.syncMark true]
    ∧ (TxQueue.join { fullQueue with backlog := [.quarantine 9, .syncMark true] } (.syncMark false)).backlog
      = [.quarantine 9, .syncMark false]
    ∧ (TxQueue.remove { fullQueue with backlog := [.quarantine 9, .syncMark true] } 0).backlog = [.syncMark true] := by
  decide +kernel

/-! ### Hypotheses met: formats and arithmetic -/

theorem test_meets_FramesReadBack : bodyFormed (.mirror 0 true 0 (BitVec.allOnes 512)) = true
    ∧ bodyFormed (.mirror 0 false 0xffff (BitVec.ofNat 512 (2 ^ 128 - 1))) = true := by decide +kernel

theorem test_meets_MessagesReadBack : wellFormed (.loadBank 1 [0, 3, 4]) = true
    ∧ messageBytes (.loadBank 1 [0, 3, 4]) = some [0x12, 0x05, 0x01, 0x03, 0x00, 0x03, 0x04] := by decide +kernel

theorem test_meets_TileMapCounts : (0 : TileMap).getLsbD 131071 = false
    ∧ (setBit 0 131071).getLsbD 131071 = true ∧ countTiles (setBit 0 131071) = 1
    ∧ firstTile (setBit 0 131071) 131071 = some 131071 ∧ firstTile (setBit 0 131070) 131071 = none := by decide +kernel

/-! ### Hypotheses met: the memory path -/

theorem test_meets_MalformedTransferIsFaulted :
    (snd .sweep).mgmt.inReset = false ∧ (snd .sweep).mem.tags[(15 : Fin 16)].outstanding = false
    ∧ (after (.nearTransfer 15 .readLine 63 0 0) (snd .sweep)).mem.nearOut = [⟨15, .fault⟩]
    ∧ (after (.nearTransfer 15 .write 15 1 0) (snd .sweep)).mem.nearOut = [⟨15, .fault⟩]
    ∧ (after (.nearTransfer 15 .lockRead 16 0 0) (snd .sweep)).mem.nearOut = [⟨15, .fault⟩] := by decide +kernel

theorem test_meets_SenderJudgesTransfers :
    (let s := after (.nearTransfer 3 .read 0x50000 1 0) (snd .sweep);
      s.mem.tags[(3 : Fin 16)].outstanding = true
      ∧ (after (.nearTransfer 3 .read 0x50000 1 0) s).mem.nearOut = [⟨3, .fault⟩])
    ∧ malformed .write 0xa7ff0 0x8000 = false
    ∧ (let s := { snd .freeze with mon.regionHold := some 1 }
      s.inHeldRegion 20 = true ∧ (after (.nearTransfer 3 .read 0xa7ff0 0x8000 0) s).mem.holdList.length = 1)
    ∧ (let s := { snd .drain with mon.drainHold := true }
      s.inScope 11 = true ∧ (after (.nearTransfer 3 .write 0x5fff0 1 0) s).mem.holdList.length = 1
      ∧ (after (.nearTransfer 3 .read 0x5fff0 1 0) s).mem.queue.length = 1)
    ∧ (after (.nearTransfer 3 .write 0x5fff0 1 0) (snd .handedOver)).mem.nearOut = [⟨3, .fault⟩]
    ∧ (after (.nearTransfer 3 .lockWrite 0x60000 1 0) (snd .handedOver)).mem.queue
      = [⟨3, .write, 0x60000, 1, 0⟩] := by decide +kernel

theorem test_meets_ReceiverJudgesTransfers :
    (rcv .idle).mgmt.inReset = false ∧ (rcv .idle).mgmt.role = .receiver
    ∧ (after (.nearTransfer 3 .write 0x50000 1 0) (rcv .live)).mem.queue.length = 1
    ∧ (after (.nearTransfer 3 .write 0x50000 1 0) (rcv .insync)).latched .writeRefused = true
    ∧ (after (.nearTransfer 3 .read 0x50000 1 0) { rcv .insync with rx.quarantine := [10] }).mem.nearOut = [⟨3, .fault⟩]
    ∧ (after (.nearTransfer 3 .write 0 1 0) (rcv .insync)).mem.queue.length = 1
    ∧ (after (.nearTransfer 3 .read 0xf0000 1 0) { rcv .receiving with rx.fill := .stopped }).mem.nearOut = [⟨3, .retry⟩]
    ∧ (after (.nearTransfer 3 .read 0xf0000 1 0) { rcv .receiving with rx.fill := .complete }).mem.nearOut = [⟨3, .fault⟩]
    ∧ (after (.nearTransfer 3 .read 0x50000 1 0) { rcv .receiving with rx.expired := [10] }).rx.expired = []
    ∧ (after (.nearTransfer 3 .read 0x50000 1 0) { rcv .receiving with link.state := .cooldown }).mem.nearOut
      = [⟨3, .fault⟩]
    ∧ (after (.nearTransfer 3 .read 0x50000 1 0) (rcv .receiving)).rx.demands = [⟨10, some 20000⟩] := by decide +kernel

theorem test_meets_ArbiterChoosesByCredit :
    (let s := queued (snd .sweep) (writeTo 50);
      s.passWaits = true ∧ s.copyWaits = false ∧ (after .arbiterGrant s).mem.queue = [])
    ∧ (let s := queued { withBits (snd .sweep) [10] with mem.frameGrants := 63 } (writeTo 50)
      s.passWaits = true ∧ s.copyWaits = true ∧ s.creditNow = 0 ∧ (after .arbiterGrant s).mem.queue = [])
    ∧ (let s := withBits (snd .sweep) [10]
      s.passWaits = false ∧ s.copyWaits = true ∧ s.pairHold = false ∧ s.beginWalk.isSome = true
      ∧ (after .arbiterGrant s).eng.inFlight.length = 1)
    ∧ (let s := queued { snd .sweep with eng.demandQueue := [10] } (writeTo 50)
      s.copyWaits = true ∧ s.demandable 10 = false ∧ (State.beginWalk { s with eng.demandQueue := [] }).isSome = false
      ∧ s.passWaits = true ∧ (after .arbiterGrant s).mem.queue = [] ∧ (after .arbiterGrant s).eng.demandQueue = [])
    ∧ (let s := { snd .sweep with eng.demandQueue := [10] }
      s.copyWaits = true ∧ s.passWaits = false ∧ (after .arbiterGrant s).mem.frameGrants = 0) := by decide +kernel

theorem test_meets_ArbiterChoosesByCredit_reads :
    (let s := { snd .sweep with eng.inFlight := [flying, { InFlight.new 20 .copy with waiting := [7, 3] }] };
      s.nextRead = some (20, 7, true) ∧ (after .arbiterGrant s).eng.inFlight
        = [flying, { InFlight.new 20 .copy with waiting := [3] }])
    ∧ (let s := { snd .sweep with eng.inFlight := [flying, InFlight.new 20 .copy] }
      s.nextRead = some (20, 1, false) ∧ (after .arbiterGrant s).eng.inFlight
        = [flying, { InFlight.new 20 .copy with issued := 2 }]) := by decide +kernel

/-- A chunk in application with no transfer issued. -/
def chunk0 : Applying := { Applying.start 7 (.tileChunk 10 63 (BitVec.allOnes 4096)) with total := 8 }

/-- The fill at tile 30 of the run of tiles 30 and 31. -/
def fill0 : FillPosition := ⟨[(30, 2)], 0, 0, 0, [], []⟩

theorem test_meets_ReceiverGrantsApplyThenFill :
    (let s := { rcv .receiving with rx.applying := some chunk0, rx.fill := .running fill0 };
      s.mem.queue = [] ∧ s.mem.internal < 16 ∧ s.pairHold = false ∧ chunk0.next = some (0, false)
      ∧ (after .arbiterGrant s).mem.outstanding
        = [⟨0, .apply 0, .writeLine, 0x57e00, 0, BitVec.allOnes 512⟩])
    ∧ (let s := { rcv .receiving with rx.fill := .running { fill0 with waiting := [511] } }
      s.nextApply.isNone = true ∧ (after .arbiterGrant s).mem.outstanding = [⟨0, .fill 30 511, .writeLine, 0xf7fc0, 0, 0⟩])
    ∧ (let s := { rcv .receiving with
        rx.fill := .running fill0, mem.tags := MemoryPath.reset.tags.set 15 ⟨false, some 0⟩ }
      s.pairHold = true ∧ (after .arbiterGrant s).mem.outstanding = []) := by decide +kernel

theorem test_meets_ReceiverGrantsApplyThenFill_contested :
    (let s := queued { rcv .receiving with rx.applying := some chunk0, mem.frameGrants := 3, mem.credit := 1 } (writeTo 10);
      s.creditNow = 1 ∧ (after .arbiterGrant s).mem.queue = [writeTo 10] ∧ (after .arbiterGrant s).mem.credit = 0
      ∧ (after .arbiterGrant { s with mem.credit := 0 }).mem.queue = [])
    ∧ (let s := { rcv .insync with rx.applying := some { Applying.start 7 (.mirror 0x50010 false 3 9) with total := 1 } }
      (after .arbiterGrant s).mem.outstanding = [⟨0, .apply 0, .write, 0x50010, 3, 9⟩])
    ∧ (let s := { rcv .insync with rx.applying := some { Applying.start 7 (.mirror 0x50040 true 0 9) with total := 1 } }
      (after .arbiterGrant s).mem.outstanding = [⟨0, .apply 0, .writeLine, 0x50040, 0, 9⟩])
    ∧ (let s := { rcv .insync with rx.applying := some { Applying.start 7 (.digest 10 0) with total := 512, issued := 511 } }
      (after .arbiterGrant s).mem.outstanding = [⟨0, .apply 511, .readLine, 0x57fc0, 0, 0⟩]) := by decide +kernel

theorem test_meets_TilesBeginInOrder :
    (let s := { withBits (snd .sweep) [11, 20] with eng.demandQueue := [10, 20] };
      s.mem.queue = [] ∧ s.pairHold = false ∧ s.mem.internal < 16 ∧ s.nextRead = none ∧ s.mayBegin = true
      ∧ s.demandable 10 = false ∧ s.demandable 20 = true ∧ (after .arbiterGrant s).eng.inFlight.map (fun e => e.tile) = [20])
    ∧ (let s := { withBits (snd .insync) [20] with eng.demandQueue := [20] }
      s.mayBegin = true ∧ s.demandable 20 = true ∧ (after .arbiterGrant s).camp.state = .mirror)
    ∧ (let s := withBits (snd .mirror) [11]
      s.mayBegin = true ∧ s.bankEntries[s.eng.sweep.entry]? = some 0 ∧ s.bit 10 = false ∧ s.bit 11 = true
      ∧ s.isInFlight 11 = false ∧ s.quarantined 11 = false ∧ (after .arbiterGrant s).eng.sweep = ⟨1, 0⟩) := by decide +kernel

theorem test_meets_TilesBeginInOrder_walks :
    (let s := { withBits (snd .sweep) [10, 11] with eng.demandQueue := [20] };
      s.demandable 20 = false ∧ (after .arbiterGrant s).eng.inFlight.map (fun e => e.tile) = [10])
    ∧ (let s := { withBits (snd .audit) [10] with eng.scanPointer := 11 }
      s.scopeIs .copy 10 = true ∧ (after .arbiterGrant s).eng.inFlight.map (fun e => (e.tile, e.kind)) = [(10, .copy)]
      ∧ (after .arbiterGrant s).eng.scanPointer = 11)
    ∧ (let s := { snd .audit with aud.walk := ⟨0, 1⟩, aud.walkDone := false }
      s.bankEntries.eraseDups[(0 : Nat)]? = some 0 ∧ (after .arbiterGrant s).eng.inFlight.map (fun e => (e.tile, e.kind))
        = [(11, .audit)] ∧ (after .arbiterGrant s).aud.walkDone = true)
    ∧ (after .arbiterGrant { snd .audit with aud.walk := ⟨1, 0⟩ }).aud.walkDone = true
    ∧ (let s := { withBits (snd .freeze) [20] with mon.regionHold := some 1, camp.copyBegun := true, eng.freezeWalk := 1 }
      s.tables.region 1 = some ⟨20, 1, .late, false⟩ ∧ (after .arbiterGrant s).eng.inFlight.map (fun e => e.tile) = [20]
      ∧ (after .arbiterGrant s).eng.freezeWalk = 1)
    ∧ (let s := { withBits (snd .drain) [10] with eng.drainWalk := ⟨1, 1⟩ }
      s.bankEntries[(2 : Nat)]? = some 0 ∧ (after .arbiterGrant s).eng.inFlight.map (fun e => e.tile) = [10]
      ∧ (after .arbiterGrant s).eng.drainWalk = ⟨2, 1⟩) := by decide +kernel

/-- With a clear tile map no entry holds a tile for the sweep walk. -/
theorem sweepBare_of_clear (s : State) (h : s.map = 0) (m : Nat) : s.sweepBare m := by
  intro _ _ _ _ _ u _ _ ho
  simp [State.offerable, State.bit, h] at ho

/-- The walk passes entry 0, whose flag is on, and entry 1, and begins tile 10 at the third visit; over a clear map it passes
all three. -/
theorem test_meets_TilesBeginInOrder_passing :
    (let s := { withBits (snd .sweep) [10] with eng.sweep := ⟨0, 1⟩ };
      s.bit 11 = false ∧ s.bankEntries[(1 : Nat)]? = some 1 ∧ s.bankEntries[(2 : Nat)]? = some 0 ∧ s.mayBegin = true
      ∧ (after .arbiterGrant s).eng.sweep = ⟨2, 1⟩ ∧ (after .arbiterGrant s).mgmt.tally[2] = 1
      ∧ (after .arbiterGrant s).eng.inFlight.map (fun e => e.tile) = [10])
    ∧ (∀ m, (snd .mirror).sweepBare m)
    ∧ (after .arbiterGrant (snd .mirror)).eng.sweep = ⟨3, 0⟩ ∧ (after .arbiterGrant (snd .mirror)).mgmt.tally[2] = 2 :=
  ⟨by decide +kernel, sweepBare_of_clear _ rfl, by decide +kernel, by decide +kernel⟩

theorem test_meets_WriteIsTrackedAtItsGrant :
    (let s := queued (snd .armed) (writeTo 10);
      s.mayBegin = false ∧ s.nextRead = none ∧ s.keptBack = false ∧ (after .arbiterGrant s).map = 0)
    ∧ (let s := queued (snd .stalled) (writeTo 11)
      s.mayBegin = false ∧ s.tracked 11 = true ∧ s.keptBack = false ∧ (after .arbiterGrant s).map = listMask [11])
    ∧ (let s := queued { snd .mirror with camp.breakFlag := true, eng.inFlight := [flying] } (writeTo 10)
      s.mayBegin = false ∧ s.nextRead = none ∧ s.isInFlight 10 = true ∧ (after .arbiterGrant s).bit 10 = true)
    ∧ (let s := queued { snd .mirror with camp.breakFlag := true, eng.faults := [⟨10, 2, true⟩] } (writeTo 10)
      s.mayBegin = false ∧ s.quarantined 10 = true ∧ (after .arbiterGrant s).bit 10 = true)
    ∧ (let s := queued { snd .mirror with camp.breakFlag := true, txq := fullQueue } (writeTo 10)
      s.mayBegin = false ∧ s.keptBack = false ∧ s.bit 10 = false ∧ (after .arbiterGrant s).mon.degrade = 1)
    ∧ (let s := queued { snd .insync with txq := fullQueue } (writeTo 10)
      s.mayBegin = false ∧ s.keptBack = false ∧ (after .arbiterGrant s).camp.state = .mirror)
    ∧ (let s := queued { snd .insync with txq.queue := fullQueue.queue.take 255, camp.breakFlag := true } (writeTo 20)
      s.mayBegin = false ∧ s.tracked 20 = true ∧ (after .arbiterGrant s).txq.queue.length = 256) := by decide +kernel

theorem test_meets_WriteIsTrackedAtItsGrant_insync :
    (let s := queued { withBits (snd .insync) [20] with eng.inFlight := [{ flying with tile := 20 }] } (writeTo 20);
      s.testHead.moveWalks.copyWaits = false ∧ s.keptBack = false ∧ s.isInFlight 20 = true ∧ s.scopeIs .copy 20 = false
      ∧ ((after .arbiterGrant s).eng.inFlight.map fun e => e.redirtied) = [true]
      ∧ (after .arbiterGrant s).camp.state = .insync)
    ∧ (let s := queued { snd .insync with eng.inFlight := [flying] } (writeTo 10)
      s.scopeIs .copy 10 = true ∧ s.bit 10 = false ∧ (after .arbiterGrant s).camp.state = .mirror)
    ∧ (let s := queued { snd .insync with eng.faults := [⟨10, 2, true⟩] } (writeTo 10)
      s.quarantined 10 = true ∧ (after .arbiterGrant s).camp.state = .insync ∧ (after .arbiterGrant s).bit 10 = true)
    ∧ (let s := queued (withBits (snd .insync) [20]) (writeTo 20)
      s.tracked 20 = true ∧ s.bit 20 = true ∧ (after .arbiterGrant s).txq.queue = []) := by decide +kernel

theorem test_meets_TerminationsOfBoardTransfers :
    (after (.farTermination 0 .fault) (snd .sweep)).mem.nearOut = []
    ∧ (after (.farTermination 0 .fault) (issued (snd .sweep) .abandoned .readLine 0)).mem.outstanding = []
    ∧ (after (.farTermination 0 .retry) (issued (snd .sweep) (.pass 3) .lockRead 0)).mem.nearOut = [⟨3, .retry⟩]
    ∧ (let s := { issued (snd .mirror) (.pass 3) .write 0x50000 with
        txq := { TxQueue.reset with queue := [⟨0, .mirror 3 false 0x50000 false 0xffff 7, 0⟩], nextEntry := 1 } }
      s.QueueLaw ∧ (s.txq.queue.find? fun e => e.pendingFor 3).isSome = true
      ∧ (after (.farTermination 0 (.done 0)) s).txq.queue = [⟨0, .mirror 3 true 0x50000 false 0xffff 7, 0⟩]
      ∧ (after (.farTermination 0 .fault) s).txq.queue = [] ∧ (after (.farTermination 0 .fault) s).bit 10 = true) := by
  unfold State.QueueLaw; decide +kernel

theorem test_meets_LineReadsEnd :
    (let s := { issued (snd .sweep) (.copy 10 511) .readLine 0 with eng.inFlight := [flying] };
      (s.eng.inFlight.find? fun e => e.tile == 10) = some flying
      ∧ ((after (.farTermination 0 (.done 9)) s).eng.inFlight.map fun e => e.buffer) = [[(511, 9)]]
      ∧ ((after (.farTermination 0 .retry) s).eng.inFlight.map fun e => e.waiting) = [[511]]
      ∧ (after (.farTermination 0 .fault) s).eng.faults = [⟨10, 1, false⟩])
    ∧ (let s := { issued (snd .sweep) (.copy 10 511) .readLine 0 with
        eng.inFlight := [{ flying with retries := [(511, 31)] }], eng.faults := [⟨10, 1, false⟩] }
      (after (.farTermination 0 .retry) s).quarantined 10 = true)
    ∧ (let s := { issued (snd .ending) (.copy 10 511) .readLine 0 with
        eng.inFlight := [flying], eng.faults := (List.range 16).map fun n => ⟨n + 40, 1, false⟩ }
      (after (.farTermination 0 .fault) s).camp.state = .idle)
    ∧ (let s := { issued (snd .audit) (.copy 10 511) .readLine 0 with
        eng.inFlight := [{ flying with kind := .audit, done := 511 }] }
      (after (.farTermination 0 (.done 1)) s).txq.queue.length = 1) := by decide +kernel

theorem test_meets_LineReadsEnd_cut :
    (let s := { issued (snd .sweep) (.copy 10 511) .readLine 0 with
        eng.inFlight := [flying]
        txq := { TxQueue.reset with queue := [⟨0, .tile 10, 0⟩, ⟨1, .tile 20, 0⟩], nextEntry := 2 } };
      s.QueueLaw ∧ (after (.farTermination 0 .fault) s).txq.queue = [⟨1, .tile 20, 0⟩])
    ∧ (let s := { issued (snd .sweep) (.copy 10 511) .readLine 0 with
        eng.inFlight := [flying], eng.faults := [⟨10, 1, false⟩]
        txq := { TxQueue.reset with queue := [⟨0, .tile 10, 3⟩, ⟨1, .tile 20, 0⟩], nextEntry := 2 } }
      s.QueueLaw ∧ (after (.farTermination 0 .fault) s).txq.queue
        = [⟨0, .tileCut 10 3, 3⟩, ⟨1, .tile 20, 0⟩, ⟨2, .quarantine 10, 0⟩])
    ∧ (let s := { issued (snd .audit) (.copy 10 511) .readLine 0 with
        eng.inFlight := [{ flying with kind := .audit }], eng.faults := [⟨10, 2, true⟩] }
      (∀ q ∈ s.txq.queue, q.body ≠ .tile 10) ∧ (after (.farTermination 0 .fault) s).txq.queue = []) := by
  unfold State.QueueLaw; decide +kernel

theorem test_meets_ReceiverWritesEnd :
    (let s := { issued (rcv .receiving) (.apply 7) .writeLine 0 with rx.applying := some { chunk0 with done := 6, issued := 8 } };
      (after (.farTermination 0 (.done 0)) s).rx.applying = some { chunk0 with done := 7, issued := 8 }
      ∧ (after (.farTermination 0 .fault) s).latched .farFault = true
      ∧ ((after (.farTermination 0 .retry) s).rx.applying.map fun a => a.waiting) = some [7])
    ∧ (let s := { issued (rcv .receiving) (.apply 7) .writeLine 0 with
        rx.applying := some { chunk0 with done := 7, issued := 8 }, rx.assembly := some ⟨10, 64, false⟩ }
      (after (.farTermination 0 (.done 0)) s).bit 10 = true)
    ∧ (let s := { issued (rcv .receiving) (.apply 7) .writeLine 0 with
        rx.applying := some { chunk0 with done := 7, issued := 8 }, rx.assembly := some ⟨10, 64, true⟩ }
      (after (.farTermination 0 (.done 0)) s).map = 0)
    ∧ (let s := { issued (withBits (rcv .receiving) [31]) (.fill 30 511) .writeLine 0 with
        rx.fill := .running { fill0 with done := 511, issued := 512 } }
      fill0.tile = 30 ∧ (after (.farTermination 0 (.done 0)) s).rx.fill = .complete
      ∧ (after (.farTermination 0 .fault) s).rx.fill = .complete ∧ (after (.farTermination 0 .fault) s).bit 30 = false)
    ∧ (let s := { issued (rcv .receiving) (.fill 30 511) .writeLine 0 with
        rx.fill := .running { fill0 with done := 511, issued := 512 } }
      s.bit 31 = false ∧ (after (.farTermination 0 (.done 0)) s).rx.fill = .running { fill0 with offset := 1 }) := by
  decide +kernel

theorem test_meets_ReceiverWritesEnd_runs :
    (let p : FillPosition := { fill0 with runs := [(30, 2), (40, 1)], done := 511, issued := 512 }
     let s := { issued (withBits (rcv .receiving) [31]) (.fill 30 511) .writeLine 0 with rx.fill := .running p };
      s.bit 40 = false ∧ (after (.farTermination 0 .fault) s).rx.fill = .running { fill0 with runs := [(40, 1)] })
    ∧ (let s := { issued (withBits (rcv .receiving) [31]) (.fill 30 511) .writeLine 0 with
        rx.fill := .running { fill0 with done := 511, issued := 512 }, rx.syncPending := true }
      (after (.farTermination 0 (.done 0)) s).rx.state = .insync
      ∧ (after (.farTermination 0 (.done 0))
          { s with rx.syncPending := false, rx.applying := some (Applying.start 7 .handover) }).rx.state = .live) := by
  decide +kernel

/-- A receiver with transfer n of a frame outstanding as number 0. -/
def applyingAt (n : Nat) (a : Applying) : State :=
  { issued (rcv .receiving) (.apply n) .writeLine 0 with rx.applying := some a, rx.assembly := some ⟨10, 64, false⟩ }

theorem test_meets_ReceiverWritesEnd_frames :
    (let s := applyingAt 7 { chunk0 with done := 7, issued := 8, retries := [(7, 31)] };
      (after (.farTermination 0 .retry) s).link.reports = [.faulted 7 10, .applied 7]
      ∧ (after (.farTermination 0 .retry) s).rx.assembly = some ⟨10, 64, true⟩)
    ∧ (let s := applyingAt 0 { Applying.start 7 (.mirror 0x50010 false 3 9) with total := 1, issued := 1 }
      (after (.farTermination 0 (.done 0)) s).link.reports = [.applied 7]
      ∧ (after (.farTermination 0 .fault) s).link.reports = [.faulted 7 10, .applied 7]
      ∧ ((after (.farTermination 0 .retry) s).rx.applying.map fun a => a.waiting) = some [0])
    ∧ (let a : Applying := { Applying.start 7 (.digest 10 (digestOf [5])) with total := 512, issued := 512, done := 511 }
      (after (.farTermination 0 (.done 5)) (applyingAt 0 a)).link.reports = [.digestResult 7 10 0, .applied 7]
      ∧ (after (.farTermination 0 (.done 6)) (applyingAt 0 a)).link.reports = [.digestResult 7 10 1, .applied 7]
      ∧ (after (.farTermination 0 (.done 5)) (applyingAt 0 { a with silent := true })).link.reports = []
      ∧ (after (.farTermination 0 (.done 5)) (applyingAt 0 { a with silent := true })).rx.appliedCount = 1
      ∧ (after (.farTermination 0 .fault) (applyingAt 0 { a with done := 510 })).rx.applying
        = some { a with done := 511, failed := true }
      ∧ (after (.farTermination 0 .retry) (applyingAt 0 { a with done := 510, failed := true })).rx.applying
        = some { a with done := 511, failed := true }) := by decide +kernel

theorem test_meets_TimersOfTheMemoryPathAndEvt :
    (let s := queued { snd .mirror with txq := fullQueue, cfg.overflow := .stall } (writeTo 10);
      s.cfg.stallLimit ≠ 0 ∧ s.mon.stall ≠ .expired ∧ s.tracked 10 = true ∧ s.nextRead = none
      ∧ (after .arbiterGrant s).mon.stall = .running ∧ (after .arbiterGrant s).mem.queue = [writeTo 10])
    ∧ (let m := { Management.reset with tally := Vector.replicate 6 255, evt := .guarding false }
      (m.raise 0x3f .campaignEnd).tally[5] = 255 ∧ (m.raise 0x3f .campaignEnd).evt = .guarding true
      ∧ (m.raise 0x1f .campaignEnd).evt = .guarding false)
    ∧ (after (.pairHoldExpiry 15) { State.reset with mem.tags := MemoryPath.reset.tags.set 15 ⟨true, some 0⟩ }).latched
      .lockBroken = true := by decide +kernel

/-! ### Hypotheses met: the management line -/

theorem test_meets_IdentityCommands : (replyTo (.setSize 131073) (snd .idle)) = ⟨.clamped, [0, 0, 2, 0]⟩
    ∧ (replyTo (.setSize 1) (snd .armed)).status = .busy ∧ (replyTo (.setIdentity 9) (rcv .live)).status = .busy
    ∧ (after (.setIdentity 9) (rcv .idle)).link.control = [.hello] := by decide +kernel

theorem test_meets_SetRole : (replyTo (.setRole 2) (snd .armed)).status = .busy
    ∧ (replyTo (.setRole 1) (rcv .insync)).status = .busy ∧ (replyTo (.setRole 0) (rcv .live)).status = .range
    ∧ (replyTo (.setRole 3) (snd .idle)).status = .range ∧ (replyTo (.setRole 1) (snd .idle)) = ⟨.ok, [1]⟩
    ∧ (after (.setRole 2) (rcv .live)).rx.held = 0 ∧ (after (.setRole 2) (snd .idle)).mgmt.role = .receiver
    ∧ (after (.setRole 1) (rcv .live)).mgmt.role = .sender := by decide +kernel

theorem test_meets_LoadRegion : (replyTo (.loadRegion 0 0 1 0 0) (rcv .receiving)).status = .busy
    ∧ (replyTo (.loadRegion 4 0 1 4 0) (snd .sweep)).status = .range
    ∧ (replyTo (.loadRegion 4 0 1 0 2) (snd .sweep)).status = .range
    ∧ (replyTo (.loadRegion 4 0 0 0 0) (snd .sweep)).status = .range
    ∧ (replyTo (.loadRegion 0 0 1 0 0) (snd .sweep)).status = .locked
    ∧ (replyTo (.loadRegion 4 11 1 0 0) (snd .sweep)).status = .overlap
    ∧ (after (.loadRegion 31 131070 1 1 1) (snd .sweep)).map = listMask [131070] := by decide +kernel

theorem test_meets_ClearRegion : (replyTo (.clearRegion 0) (rcv .insync)).status = .busy
    ∧ (replyTo (.clearRegion 32) (snd .sweep)).status = .range ∧ (replyTo (.clearRegion 1) (snd .sweep)).status = .locked
    ∧ (after (.clearRegion 31) (snd .sweep)).tables.region 31 = none
    ∧ (after (.clearRegion 0) (snd .idle)).tables.policyAt 11 = .skip := by decide +kernel

theorem test_meets_LoadAndSelectBank : (replyTo (.loadBank 0 []) (rcv .receiving)).status = .busy
    ∧ (replyTo (.loadBank 2 []) (snd .sweep)).status = .range ∧ (replyTo (.loadBank 1 [32]) (snd .sweep)).status = .range
    ∧ (replyTo (.loadBank 1 (List.replicate 65 0)) (snd .sweep)).status = .range
    ∧ (replyTo (.loadBank 0 [0]) (snd .sweep)).status = .locked
    ∧ (after (.loadBank 1 (List.replicate 64 31)) (snd .sweep)).tables.bankB = List.replicate 64 31
    ∧ (replyTo (.selectBank 2) (snd .sweep)).status = .range ∧ (replyTo (.selectBank 1) (rcv .insync)).status = .busy
    ∧ (after (.selectBank 1) (snd .armed)).tables.active = .bankB
    ∧ (after (.selectBank 1) (snd .settle)).tables.pending = some .bankB
    ∧ (after (.selectBank 0) { snd .sweep with tables.pending := some .bankB }).tables.pending = none
    ∧ (replyTo (.selectBank 1) (snd .mirror)).status = .busy := by decide +kernel

/-- Arguments of SET_TUNING at the ends of their ranges. -/
def edges : TuningArgs := ⟨60000, 1000, 100, 0, 0, 131071, 65535, 1, 1023, 16, 1, 1, 1000, 100, 1⟩

theorem test_meets_SetTuning : (replyTo (.setTuning edges) (snd .delay)).status = .busy
    ∧ (replyTo (.setTuning { edges with audit := 2 }) (snd .armed)).status = .range
    ∧ (replyTo (.setTuning edges) (snd .armed)) = ⟨.ok, tuningArgBytes edges⟩
    ∧ (after (.setTuning { edges with demandWait := 0 }) (rcv .idle)).cfg.demandWait = 1 := by decide +kernel

theorem test_meets_SetShare : (replyTo (.setShare 0) (rcv .live)) = ⟨.clamped, [1, 1]⟩
    ∧ (replyTo (.setShare 65) (snd .drain)) = ⟨.clamped, [64, 64]⟩
    ∧ (replyTo (.setShare 20) { snd .sweep with conv.share := 24, conv.boost := true }) = ⟨.ok, [20, 24]⟩
    ∧ (replyTo (.setShare 24) { snd .sweep with conv.share := 24, conv.boost := true }) = ⟨.ok, [24, 24]⟩ := by
  decide +kernel

theorem test_meets_SetLinesAndLink : (replyTo (.setLines 4 0 0 0) (snd .drain)).status = .range
    ∧ (replyTo (.setLines 3 1 0x40 0) (snd .drain)).status = .range
    ∧ (replyTo (.setLines 3 1 0x3f 0x7ff) (snd .drain)) = ⟨.ok, [3, 1, 0x3f, 0xff, 7]⟩
    ∧ (replyTo (.setLink 0 0 0 0 1) (snd .sweep)).status = .busy ∧ (replyTo (.setLink 1 4 0 0 1) (snd .idle)).status = .range
    ∧ (replyTo (.setLink 1 3 3 1 601) (snd .idle)) = ⟨.clamped, [1, 3, 3, 1, 0x58, 2]⟩
    ∧ (after (.setLink 0 0 0 0 1) (snd .armed)).link.state = .down
    ∧ (after (.setLink 0 0 0 0 1) State.reset).link = State.reset.link
    ∧ (after (.setLink 1 0 0 0 1)
      { State.reset with link.quiet := none, link.signal0 := true, link.signal1 := true }).link.state = .training := by
  decide +kernel

theorem test_meets_ClearLatchesAndReads : (replyTo (.clearLatches 0x800) (snd .sweep)).status = .range
    ∧ (replyTo (.clearLatches 0x7fe) { snd .sweep with mgmt.latches := 0x7ff }) = ⟨.ok, [1, 0]⟩
    ∧ (replyTo (.readRegion 32) (snd .sweep)).status = .range ∧ (replyTo (.readRegion 31) (snd .sweep)) = ⟨.ok, [0]⟩
    ∧ (replyTo (.readRegion 0) (snd .sweep)) = ⟨.ok, [1, 10, 0, 0, 0, 2, 0, 0, 0, 0, 1]⟩
    ∧ (replyTo (.readBank 2) (snd .sweep)).status = .range
    ∧ (replyTo (.readBank 1) (snd .sweep)) = ⟨.ok, [2, 1, 2, 0, 0]⟩ := by decide +kernel

/-! ### Hypotheses met: the campaign -/

theorem test_meets_StartAndStartEdge :
    (replyTo .start { snd .armed with link.state := .cooldown }).status = .noPeer
    ∧ (replyTo .start { snd .armed with link.peer := some (peer .sender) }).status = .noPeer
    ∧ (replyTo .start { snd .armed with tables.active := .bankB, tables.bankB := [] }).status = .empty
    ∧ (replyTo .start { snd .armed with link.peer := some { peer .receiver with size := 20 } }).status = .size
    ∧ (replyTo .start { snd .armed with link.peer := some { peer .receiver with size := 21 } }).status = .ok
    ∧ (after (.cueEdge true) { snd .armed with cfg.cueMode := .start, link.peer := none }).latched .cueIgnored = true
    ∧ (after .start (snd .armed)).camp.state = .plan ∧ (after .start (snd .armed)).map = listMask [10, 11, 20]
    ∧ (after (.cueEdge true) { snd .armed with cfg.cueMode := .startBreak, cfg.startDelay := 1 }).camp.startDelay
      = some 1000 := by decide +kernel

theorem test_meets_ClosingSteps :
    (let s := { snd .drain with camp.handoverSent := true };
      (after (.abort 1) s).camp.state = .handedOver ∧ (after (.abort 0) s).camp.exit.reason = .handoverUnconfirmed)
    ∧ (after (.abort 0) (snd .stalled)).camp.exit.reason = .abortCommand
    ∧ (after (.abort 1) (snd .drain)).camp.state = .idle
    ∧ (after (.abort 1) { snd .sweep with eng.inFlight := [flying] }).camp.state = .ending
    ∧ (after (.abort 0) { snd .ending with camp.endReason := .abortCue }).camp.exit.reason = .abortCue
    ∧ (after (.abort 1) (snd .ending)).camp.state = .ending ∧ (replyTo (.abort 2) (snd .delay)).status = .range
    ∧ (after .planWaitExpiry { snd .plan with camp.planWait := some 1 }).camp.exit.reason = .peerSilent
    ∧ (after .peerWaitExpiry { snd .stalled with camp.peerWait := some 1 }).camp.exit.reason = .peerTimeout
    ∧ (after .resumeWaitExpiry { snd .stalled with camp.resumeWait := some 1 }).camp.exit.reason = .peerSilent
    ∧ (after .endingClose { snd .ending with camp.endReason := .abortCue }).camp.exit.reason = .abortCue
    ∧ (after (.planRefuse 1) (snd .plan)).camp.exit.reason = .sizeMismatch
    ∧ (after (.planRefuse 0) (snd .plan)).camp.state = .plan := by decide +kernel

theorem test_meets_CueAndPace :
    (after (.cueEdge true) { rcv .live with cfg.cueMode := .startAbort }).mgmt.cue = true
    ∧ (after (.cueEdge true) { snd .sweep with cfg.cueMode := .start }).camp.state = .sweep
    ∧ (after (.cueEdge true) { snd .drain with cfg.cueMode := .startBreak }).camp.breakFlag = false
    ∧ (after (.cueEdge true) { snd .audit with cfg.cueMode := .startBreak }).camp.breakFlag = true
    ∧ (after (.cueEdge true) { snd .delay with cfg.cueMode := .startAbort }).camp.exit.reason = .abortCue
    ∧ (after (.paceChange true) (snd .sweep)).mgmt.pace = true := by decide +kernel

theorem test_meets_PassesBegin :
    (after .startDelayExpiry { snd .delay with camp.startDelay := some 1 }).camp.state = .plan
    ∧ (after .startDelayExpiry (snd .delay)).camp.state = .delay
    ∧ (after .settleExpiry { snd .settle with camp.settle := some 1, tables.pending := some .bankB }).tables.active = .bankB
    ∧ (after (.planAck 5) (snd .plan)).camp.state = .sweep ∧ (after (.planAck 4) (snd .plan)).camp.state = .plan
    ∧ (let s := { snd .stalled with camp.resumeWait := some 1, camp.stalledFrom := .settle }
      (after (.resumeAck 5) s).camp.state = .sweep ∧ (after (.resumeAck 6) s).camp.state = .stalled)
    ∧ (let s := { snd .stalled with camp.resumeWait := some 1, camp.stalledFrom := .delay, camp.synced := true }
      (after (.resumeAck 5) s).camp.state = .mirror ∧ (after (.resumeAck 5) s).camp.synced = false) := by decide +kernel

/-- A sender whose sweep walk is past the last entry of its bank. -/
def passed (st : SenderState) : State := { snd st with eng.sweep := ⟨3, 0⟩ }

theorem test_meets_PassEndInSweep :
    ((passed .sweep).bankEntries.length ≤ (passed .sweep).eng.sweep.entry)
    ∧ (after .passEnd (passed .sweep)).camp.state = .mirror
    ∧ (let s := { withBits (passed .sweep) [10] with cfg.mirrorThreshold := 0, cfg.settleDelay := 1 }
      (after .passEnd s).camp.settle = some 1000)
    ∧ (let s := { withBits (passed .sweep) [10] with cfg.mirrorThreshold := 0, camp.passNumber := 30 }
      (after .passEnd s).camp.state = .mirror)
    ∧ (let s := { withBits (passed .sweep) [10] with
        cfg.mirrorThreshold := 0, camp.passNumber := 30, cfg.nonConvergence := .endCampaign }
      (after .passEnd s).camp.exit.reason = .notConverged)
    ∧ (let s := { withBits (passed .sweep) [10] with cfg.mirrorThreshold := 0, camp.passNumber := 2, conv.w := 1 }
      (after .passEnd s).conv.share = 24 ∧ (after .passEnd s).camp.state = .sweep)
    ∧ (let s := { withBits (passed .sweep) [10] with
        cfg.mirrorThreshold := 0, camp.passNumber := 2, conv.w := 1, conv.share := 48, conv.flat := 1 }
      (after .passEnd s).conv.flat = 2) := by decide +kernel

/-- No pass ends with a tile in flight or a demand queued; over a clear map the walk passes the entries that are left. -/
theorem test_meets_PassEnd_goes_on : State.passGoesOn { passed .sweep with eng.inFlight := [flying] }
    ∧ State.passGoesOn { snd .mirror with eng.demandQueue := [10] } ∧ (snd .sweep).passRunsOut ∧ (snd .mirror).passRunsOut
    ∧ (after .passEnd { snd .mirror with eng.demandQueue := [10] }).camp.passNumber = 0
    ∧ (after .passEnd (snd .sweep)).camp.state = .mirror :=
  ⟨.inl (by simp), .inr ⟨by decide +kernel, .inr (.inl (by simp))⟩,
    ⟨rfl, by decide +kernel, rfl, fun m _ => sweepBare_of_clear _ rfl m⟩,
    ⟨rfl, by decide +kernel, rfl, fun m _ => sweepBare_of_clear _ rfl m⟩, by decide +kernel, by decide +kernel⟩

theorem test_meets_PassEndInMirror : 0 < (withBits (passed .mirror) [10]).countD
    ∧ (after .passEnd (withBits (passed .mirror) [10])).camp.passNumber = 1
    ∧ (after .passEnd { withBits (passed .mirror) [10] with camp.passNumber := 30 }).camp.exit.reason = .notConverged
    ∧ (after .passEnd { withBits (passed .mirror) [10] with camp.passNumber := 2, conv.w := 1, conv.share := 47 }).conv.share
      = 48 := by decide +kernel

theorem test_meets_PassCloses : (after .passClose (snd .mirror)).camp.state = .audit
    ∧ (after .passClose { snd .mirror with cfg.audit := false }).camp.state = .insync
    ∧ (after .passEnd (passed .mirror)).camp.state = .audit
    ∧ (after .passClose (withBits (snd .mirror) [10])).camp.state = .mirror := by decide +kernel

theorem test_meets_AuditPassEnds :
    (after .auditPassEnd { snd .audit with camp.breakFlag := true }).camp.state = .audit
    ∧ (after .auditPassEnd { snd .audit with aud.walkDone := true }).camp.state = .insync
    ∧ (after .auditPassEnd { snd .audit with aud.walkDone := true, aud.mismatch := 1, aud.failed := 1 }).aud.failed = 2
    ∧ (after .auditPassEnd { snd .audit with aud.walkDone := true, aud.mismatch := 1, aud.failed := 2 }).camp.exit.reason
      = .auditFailed := by decide +kernel

theorem test_meets_HandoverFreezesRegions : (after .handover (snd .insync)).mon.regionHold = some 1
    ∧ (after .handover { snd .insync with tables.bankA := [0] }).camp.state = .drain
    ∧ (let s := { snd .freeze with mon.regionHold := some 1 }
      (after .heldRegionQuiet s).camp.copyBegun = true
      ∧ (after .heldRegionQuiet { s with mon.passage := [⟨3, .read, 20⟩] }).camp.copyBegun = false)
    ∧ (let s := { snd .freeze with mon.regionHold := some 1, camp.copyBegun := true }
      (after .freezeRegionComplete s).camp.state = .drain
      ∧ (after .freezeRegionComplete { s with camp.freezeList := [3] }).mon.regionHold = some 3
      ∧ (after .freezeRegionComplete (withBits s [20])).camp.state = .freeze) := by decide +kernel

theorem test_meets_DrainAndHoldBudget : (after .handoverQueued (snd .drain)).txq.queue = [⟨0, .handover, 0⟩]
    ∧ (after .handoverQueued (withBits (snd .drain) [20])).txq.queue = []
    ∧ (after .holdBudgetExpiry (snd .drain)).camp.state = .drain
    ∧ (after .holdBudgetExpiry { snd .ending with camp.holdBudget := some 1 }).latched .holdExpired = true
    ∧ (after .holdBudgetExpiry { snd .freeze with camp.holdBudget := some 1 }).camp.state = .insync
    ∧ (after .holdBudgetExpiry { withBits (snd .drain) [10] with camp.holdBudget := some 1 }).camp.state = .mirror
    ∧ (after .holdBudgetExpiry { snd .drain with camp.holdBudget := some 1, eng.inFlight := [flying] }).camp.state
      = .mirror := by decide +kernel

/-! ### Hypotheses met: frames that arrive at the sender -/

theorem test_meets_CreditsAreTaken : (after (.credit 1) { snd .sweep with link.state := .training }).txq.credits = 128
    ∧ (after (.keepalive 128) { snd .sweep with txq.credits := 0 }).txq.credits = 128
    ∧ (after (.keepalive 129) { snd .sweep with txq.credits := 0 }).txq.credits = 0 := by decide +kernel

theorem test_meets_HelloIsTaken :
    (after (.hello ⟨2, 88, 131072, 5, 0, 0⟩) (snd .sweep)).link.state = .down
    ∧ (after (.hello ⟨2, 88, 131072, 5, 4, 0⟩) (snd .sweep)).link.peer = some (peer .receiver)
    ∧ (after (.hello ⟨2, 88, 0, 5, 1, 0⟩) (snd .sweep)).link.state = .up
    ∧ (after (.hello ⟨2, 88, 1, 5, 3, 128⟩) { snd .sweep with txq.credits := 0 }).txq.credits = 128
    ∧ (after (.hello ⟨1, 88, 131072, 5, 2, 0⟩) (rcv .insync)).rx.state = .insync
    ∧ (after (.hello ⟨1, 88, 131072, 5, 1, 0⟩) (rcv .insync)).rx.held = 0
    ∧ (after (.hello ⟨1, 88, 131072, 6, 4, 0⟩) (rcv .idle)).rx.held = 0
    ∧ (after (.hello ⟨1, 88, 131072, 6, 4, 0⟩) { rcv .idle with link.state := .down }).rx.held = 5 := by decide +kernel

theorem test_meets_HelloIsTaken_awaiting :
    (let s := { snd .stalled with camp.peerWait := none, camp.resumeWait := some 1, txq.credits := 0 };
      (after (.hello ⟨2, 99, 131072, 9, 0, 1⟩) s).camp.state = .stalled
      ∧ (after (.hello ⟨2, 99, 131072, 9, 0, 1⟩) s).txq.credits = 1) := by decide +kernel

/-- A sender with a whole TILE entry sent as frames 0 to 63, then a QUARANTINE mark as frame 64. -/
def sentTile : State :=
  { snd .sweep with
    eng.inFlight := [flying]
    txq := { TxQueue.reset with
      queue := [⟨0, .tile 10, 64⟩, ⟨1, .quarantine 40, 1⟩]
      nextEntry := 2
      nextSeq := 65
      record := ((List.range 64).map fun n => ⟨BitVec.ofNat 16 n, some 0, n⟩) ++ [⟨64, some 1, 0⟩] } }

theorem test_meets_AppliedCovers : sentTile.QueueLaw
    ∧ (after (.applied 63) sentTile).txq.queue = [⟨1, .quarantine 40, 1⟩] ∧ (after (.applied 63) sentTile).conv.k = 1
    ∧ sentTile.scopeIs .copy 10 = true
    ∧ (after (.applied 63) { sentTile with eng.faults := [⟨10, 1, false⟩, ⟨40, 2, true⟩] }).eng.faults = [⟨40, 2, true⟩]
    ∧ (after (.applied 63) { sentTile with eng.inFlight := [{ flying with faulted := true }] }).conv.k = 0
    ∧ (after (.applied 62) sentTile).txq.record.length = 2 ∧ (after (.applied 65) sentTile).txq.record.length = 65
    ∧ (after (.applied 4) { snd .drain with
        txq := { TxQueue.reset with queue := [⟨7, .handover, 1⟩], nextEntry := 8, record := [⟨4, some 7, 0⟩] } }).camp.state
      = .handedOver := by
  unfold State.QueueLaw; decide +kernel

theorem test_meets_AppliedCovers_handover :
    (let s := { snd .drain with
        eng.inFlight := [flying]
        txq := { TxQueue.reset with
          queue := [⟨7, .handover, 1⟩, ⟨8, .tile 10, 0⟩], nextEntry := 9, record := [⟨3, none, 0⟩, ⟨4, some 7, 0⟩] } };
      s.QueueLaw ∧ (after (.applied 4) s).camp.exit.reason = .complete ∧ (after (.applied 4) s).bit 10 = true) := by
  unfold State.QueueLaw; decide +kernel

theorem test_meets_AppliedCovers_counts : sentTile.SenderFits ∧ sentTile.Saturated := by
  unfold State.SenderFits State.Saturated
  refine ⟨by decide +kernel, by decide, by decide, by decide, by decide, by decide, by decide, by decide, ?_⟩
  intro p h; cases h

theorem test_meets_LossHandlingAndBadFrames : sentTile.QueueLaw
    ∧ (after (.gap 65) sentTile).txq.record.length = 65 ∧ (after .applyTimeout (snd .sweep)).txq.resync = none
    ∧ (after (.gap 64) sentTile).txq.queue = [⟨0, .tile 10, 64⟩, ⟨1, .quarantine 40, 0⟩]
    ∧ (after (.gap 63) sentTile).bit 10 = true ∧ (after (.gap 63) sentTile).txq.resync = some 63
    ∧ (after .applyTimeout sentTile).txq.resync = some 65 ∧ (after .badFrame sentTile).txq.resync = some 65
    ∧ (let s := { snd .drain with
        camp.tries := 3
        txq := { TxQueue.reset with queue := [⟨7, .handover, 1⟩], nextEntry := 8, record := [⟨4, some 7, 0⟩] } }
      (after (.gap 4) s).camp.state = .handedOver
      ∧ (after (.gap 4) { s with camp.tries := 2 }).txq.queue = [⟨7, .handover, 0⟩]) := by
  unfold State.QueueLaw; decide +kernel

theorem test_meets_LossHandlingAndBadFrames_plan :
    (let s := { snd .plan with
        camp.synced := true
        txq := { TxQueue.reset with
          queue := [⟨0, .plan [(0, ⟨10, 2, .copy, true⟩)], 2⟩, ⟨1, .quarantine 11, 0⟩]
          nextEntry := 2, nextSeq := 2, record := [⟨0, some 0, 0⟩, ⟨1, some 0, 1⟩] } };
      s.QueueLaw ∧ (after (.gap 1) s).txq.queue
        = [⟨0, .plan [(0, ⟨10, 2, .copy, true⟩)], 0⟩, ⟨2, .syncMark true, 0⟩, ⟨1, .quarantine 11, 0⟩]
      ∧ (after (.gap 1) s).link.control = [.beginCampaign 5 0 1]) := by
  unfold State.QueueLaw; decide +kernel

theorem test_meets_ReportsAboutTiles_mark :
    (let s := { snd .stalled with eng.faults := [⟨10, 1, false⟩] };
      (after (.faulted 0 10) s).txq.queue = [⟨0, .quarantine 10, 0⟩])
    ∧ (let s := { snd .insync with eng.faults := [⟨10, 1, false⟩] }
      s.scopeIs .copy 10 = true ∧ s.bit 10 = false ∧ (after (.faulted 0 10) s).txq.queue
        = [⟨0, .syncMark false, 0⟩, ⟨1, .quarantine 10, 0⟩]) := by decide +kernel

theorem test_meets_ReportsAboutTiles :
    (after (.faulted 0 131072) (snd .sweep)).eng.faults = [] ∧ (after (.faulted 0 10) (snd .armed)).eng.faults = []
    ∧ (after (.faulted 0 131071) (snd .sweep)).eng.faults = [⟨131071, 1, false⟩]
    ∧ (after (.faulted 0 10) { snd .sweep with eng.faults := [⟨10, 1, false⟩] }).quarantined 10 = true
    ∧ (after (.faulted 0 10) { snd .sweep with eng.faults := [⟨10, 2, true⟩] }).eng.faults = [⟨10, 2, true⟩]
    ∧ (after (.faulted 0 10) { snd .ending with eng.faults := (List.range 16).map fun n => ⟨n + 40, 1, false⟩ }).camp.state
      = .idle
    ∧ (let s := { snd .audit with eng.inFlight := [{ flying with kind := .audit, lastSeq := some 3 }] }
      (after (.digestResult 3 10 1) s).aud.mismatch = 1 ∧ (after (.digestResult 4 10 1) s).eng.inFlight.length = 1
      ∧ (after (.digestResult 3 10 2) s).eng.inFlight.length = 1 ∧ (after (.digestResult 3 10 0) s).eng.inFlight = [])
    ∧ (let s := { snd .audit with eng.inFlight := [{ flying with kind := .audit, lastSeq := some 3, redirtied := true }] }
      (after (.digestResult 3 10 1) s).aud.mismatch = 0)
    ∧ (after (.demand 20) (withBits (snd .plan) [20])).eng.demandQueue = [20]
    ∧ (after (.demand 20) (snd .plan)).eng.demandQueue = [] := by decide +kernel

theorem test_meets_RelinkDecision :
    (let s := { snd .stalled with camp.peerWait := some 1 };
      peerOf ⟨2, 88, 131072, 5, 2, 0⟩ = some { peer .receiver with state := 2 }
      ∧ (after (.hello ⟨2, 88, 131072, 5, 2, 0⟩) s).camp.resumeWait = some 100000
      ∧ (after (.hello ⟨2, 88, 131072, 5, 3, 0⟩) s).camp.state = .plan
      ∧ (after (.hello ⟨2, 88, 20, 5, 0, 0⟩) s).camp.state = .idle)
    ∧ (let s := { snd .stalled with camp.resumeWait := some 1, camp.resumeRepeat := some 1 }
      (after (.resumeRefuse 5) s).camp.exit.reason = .peerChanged
      ∧ (after .resumeRepeat s).link.control = [.resume 5 0])
    ∧ (after (.resumeRefuse 5) (snd .stalled)).camp.state = .stalled
    ∧ (after .resumeRepeat (snd .stalled)).link.control = [] := by decide +kernel

/-! ### Hypotheses met: the receiver -/

theorem test_meets_ReceiverTakesFrames :
    (after (.beginFrame 6 0 9) (rcv .live)).rx.held = 5 ∧ (after (.beginFrame 6 0 9) (rcv .insync)).rx.state = .receiving
    ∧ (after (.resumeFrame 5 9) (rcv .insync)).link.reports = [.resumeAck 5]
    ∧ (after (.resumeFrame 5 9) (rcv .live)).link.reports = [.resumeRefuse 5]
    ∧ (after (.abandon 14) (rcv .receiving)).rx.state = .idle ∧ (after (.abandon 0) (rcv .live)).rx.state = .live
    ∧ (after (.abandon 15) (rcv .receiving)).rx.state = .receiving ∧ (after (.beginFrame 0 0 9) (rcv .receiving)).rx.held = 0
    ∧ (after (.orderedFrameArrival 7 .syncMark) (rcv .receiving)).rx.seen = 8
    ∧ (after (.orderedFrameArrival 7 .syncMark) { rcv .receiving with rx.discard := true }).rx.seen = 7
    ∧ (after (.orderedFrameArrival 7 .syncMark)
      { rcv .receiving with rx.buffer := List.replicate 128 (.frame 0 .syncMark) }).rx.discard = true
    ∧ (after (.resync 9 128) (rcv .receiving)).link.reports = [.credit 128]
    ∧ (after (.resync 9 129) (rcv .receiving)).link.reports = []
    ∧ (after (.resync 9 0) { rcv .receiving with rx.buffer := [.frame 0 .syncMark] }).rx.buffer
      = [.frame 0 .syncMark, .marker 9]
    ∧ (after (.resync 9 0) (rcv .receiving)).rx.buffer = [.marker 9] := by decide +kernel

/-- A receiver with one frame waiting. -/
def waiting (st : ReceiverState) (b : OrderedBody) : State := { rcv st with rx.buffer := [.frame 7 b] }

theorem test_meets_ApplierTakesTransfers :
    (after .applierTake (waiting .receiving (.tileChunk 131072 0 0))).rx.applying = none
    ∧ (after .applierTake (waiting .receiving (.tileChunk 10 64 0))).link.reports = [.credit 1, .applied 7]
    ∧ (after .applierTake (waiting .receiving (.tileChunk 131071 0 0))).rx.assembly = some ⟨131071, 1, false⟩
    ∧ (after .applierTake { waiting .insync (.tileChunk 10 63 0) with rx.assembly := some ⟨10, 63, false⟩ }).rx.assembly
      = some ⟨10, 64, false⟩
    ∧ (after .applierTake (waiting .insync (.tileChunk 10 63 0))).rx.assembly = some ⟨10, 64, true⟩
    ∧ (after .applierTake (waiting .insync (.mirror 0x50020 true 0 0))).link.reports = [.credit 1, .applied 7]
    ∧ ((after .applierTake (withBits (waiting .insync (.mirror 0x50020 false 1 0)) [10])).rx.applying.map fun a => a.total)
      = some 1
    ∧ (after .applierTake (waiting .insync (.mirror 0x50020 false 1 0))).link.reports
      = [.credit 1, .faulted 7 10, .applied 7]
    ∧ ((after .applierTake (withBits (waiting .insync (.digest 10 0)) [10])).rx.applying.map fun a => a.total) = some 512
    ∧ (after .applierTake (waiting .insync (.digest 10 0))).link.reports = [.credit 1, .digestResult 7 10 1, .applied 7]
    ∧ (after .applierTake (waiting .insync (.digest 131072 0))).link.reports = [.credit 1, .applied 7] := by decide +kernel

theorem test_meets_ApplierTakesMarks :
    (after .applierTake (waiting .live .syncMark)).link.reports = [.credit 1, .applied 7]
    ∧ (after .applierTake (waiting .idle .syncMark)).rx.syncPending = false
    ∧ (after .applierTake { waiting .receiving .syncMark with rx.fill := .complete }).rx.state = .insync
    ∧ (after .applierTake (waiting .receiving .syncMark)).rx.syncPending = true
    ∧ (after .applierTake (waiting .insync .unsyncMark)).rx.state = .receiving
    ∧ (after .applierTake (waiting .receiving (.quarantine 131071))).rx.quarantine = [131071]
    ∧ (after .applierTake (waiting .receiving (.quarantine 131072))).rx.quarantine = []
    ∧ (after .applierTake { waiting .receiving (.abandonTile 10) with rx.assembly := some ⟨10, 3, true⟩ }).rx.assembly = none
    ∧ (let s := withBits (waiting .receiving (.abandonTile 10)) [10, 11];
      (after .applierTake { s with rx.assembly := some ⟨10, 1, false⟩ }).map = listMask [11])
    ∧ (after .applierTake (withBits (waiting .receiving (.abandonTile 10)) [10])).map = listMask [10]
    ∧ (after .applierTake { waiting .receiving (.abandonTile 11) with rx.assembly := some ⟨10, 3, true⟩ }).rx.assembly
      = some ⟨10, 3, true⟩
    ∧ (after .applierTake (waiting .insync .handover)).rx.state = .insync
    ∧ (after .applierTake { waiting .receiving .handover with rx.fill := .complete }).rx.state = .live
    ∧ (after .applierTake (waiting .idle (.plan 31 10 2 3 1))).rx.planRecords = [(31, ⟨10, 2, .skip, true⟩)]
    ∧ (after .applierTake (waiting .idle (.plan 32 10 2 3 1))).rx.planRecords = []
    ∧ (after .applierTake { waiting .receiving .planEnd with rx.planRecords := [(0, ⟨131071, 2, .copy, false⟩)] }).link.reports
      = [.credit 1, .planRefuse 1, .applied 7]
    ∧ (after .applierTake { withBits (waiting .insync .planEnd) [10, 20] with
        rx.planRecords := [(9, ⟨10, 1, .copy, false⟩), (8, ⟨20, 1, .copy, false⟩)] }).map = listMask [10]
    ∧ (after .applierTake { waiting .idle .planEnd with rx.planRecords := [(9, ⟨30, 1, .zero, false⟩)] }).rx.fill
      = .running ⟨[(30, 1)], 0, 0, 0, [], []⟩
    ∧ (after .applierTake { rcv .insync with rx.buffer := [.marker 3, .marker 4] }).rx.buffer = []
    ∧ (let s := waiting .receiving .syncMark
      let listed := fun (n : Nat) (t : State) => { t with link.reports := .applied 6 :: List.replicate n (.faulted 5 1) };
      after .applierTake (listed 63 s) = listed 63 s ∧ (after .applierTake (listed 62 s)).rx.syncPending = true
      ∧ (after .applierTake (listed 62 (waiting .receiving .planEnd))).rx.applying = none
      ∧ (after .applierTake (listed 62 (waiting .receiving .planEnd))).rx.buffer = [.frame 7 .planEnd])
    ∧ (after (.demandWaitExpiry 10) { rcv .insync with rx.demands := [⟨10, some 1⟩], rx.expired := List.range 8 }).rx.expired
      = [1, 2, 3, 4, 5, 6, 7, 10] := by decide +kernel

/-! ### Hypotheses met: the link and the resets -/

theorem test_meets_Transmit :
    (after .transmit { rcv .insync with link.control := [.hello], link.state := .blanking }).link.linkOut
      = [.hello ⟨2, 0, 131072, 5, 2, 0⟩]
    ∧ (after .transmit { snd .plan with link.control := [.beginCampaign 5 9 0], txq.nextSeq := 3 }).link.linkOut
      = [.beginCampaign 5 9 3]
    ∧ (after .transmit { snd .stalled with link.control := [.resume 5 0], txq.nextSeq := 3 }).link.linkOut = [.resume 5 3]
    ∧ (after .transmit { snd .idle with link.control := [.abandon .linkLost 3] }).link.control = [.abandon .linkLost 2]
    ∧ (after .transmit { snd .idle with link.control := [.abandon .linkLost 1] }).link.control = []
    ∧ (after .transmit { snd .sweep with txq.resync := some 4, txq.resyncMark := some true }).link.linkOut = [.resync 4 0]
    ∧ (after .transmit { snd .sweep with txq.resyncMark := some true, txq.credits := 1 }).link.linkOut
      = [.ordered 0 .syncMark]
    ∧ (after .transmit { sentTile with txq.queue := [⟨0, .tile 10, 64⟩, ⟨1, .handover, 0⟩], txq.credits := 1 }).link.linkOut
      = [.ordered 65 .handover]
    ∧ (after .transmit { sentTile with txq.queue := [⟨1, .handover, 0⟩], link.keepaliveDue := true }).link.linkOut
      = [.keepalive 0]
    ∧ (let s := { sentTile with txq.queue := [⟨1, .mirror 3 false 0x50000 false 1 7, 0⟩], link.keepaliveDue := true }
      s.txq.credits = 0 ∧ s.readyFrame (.mirror 3 false 0x50000 false 1 7) 0 = none
      ∧ (after .transmit { s with txq.credits := 5 }).link.linkOut = [.keepalive 0]
      ∧ (after .transmit { s with txq.credits := 5, txq.queue := [] }).link.linkOut = [.keepalive 0])
    ∧ ((after .transmit { snd .audit with
        eng.inFlight := [{ flying with kind := .audit }]
        txq := { TxQueue.reset with queue := [⟨0, .digest 10 9, 0⟩], nextEntry := 1, nextSeq := 6, credits := 1 }
        }).eng.inFlight.map fun e => e.lastSeq) = [some 6]
    ∧ (after .transmit { rcv .insync with link.reports := [.credit 9] }).link.creditTotal = 9
    ∧ (after .transmit { rcv .insync with link.creditTotal := 9, link.keepaliveDue := true }).link.linkOut = [.keepalive 9]
    ∧ (after .transmit { rcv .insync with link.state := .training, link.reports := [.credit 9] }).link.linkOut = [] := by
  decide +kernel

theorem test_meets_Transmit_control : controlAdd (.resume 5 9) [.resume 5 3, .hello] = [.resume 5 9, .hello]
    ∧ controlAdd .hello [.resume 5 3] = [.resume 5 3, .hello] := by decide

theorem test_meets_LinkComesUp :
    (after .quietTimeExpiry { State.reset with link.signal0 := true, link.signal1 := true }).link.state = .training
    ∧ (after .laneSignal { State.reset with link.quiet := none }).link.state = .training
    ∧ (after .trained { State.reset with link := linkIn .training none }).link.blanking = some 50000
    ∧ (after .trained { State.reset with link := linkIn .training none, cfg.blanking := .ms0 }).link.state = .up
    ∧ (after .trained (rcv .idle)).link.state = .up
    ∧ (after .blankingEnd { State.reset with link := linkIn .blanking none }).txq.credits = 128
    ∧ (after .blankingEnd { State.reset with link.state := .blanking }).link.state = .blanking
    ∧ (after .offTimeEnd { snd .sweep with link := linkIn .cooldown (some (peer .receiver)) }).link.state = .up
    ∧ (snd .sweep).departs (peer .receiver) = false
    ∧ (after .offTimeEnd (snd .sweep)).link.control = [] ∧ (after .helloTimerExpiry (snd .idle)).link.control = [.hello]
    ∧ (after .blankingHelloTimer { State.reset with link := linkIn .blanking none }).link.control = [.hello] := by
  decide +kernel

theorem test_meets_LinkComesUp_relink :
    (let s := { snd .stalled with camp.peerWait := some 1, link := linkIn .blanking (some (peer .receiver)) };
      (after .blankingEnd s).camp.resumeWait = some 100000 ∧ (after .blankingEnd s).txq.credits = 128
      ∧ (after .trained { s with link.state := .training, cfg.blanking := .ms0 }).camp.resumeWait = some 100000
      ∧ (after .blankingEnd { s with link.peer := some { peer .receiver with number := 4 } }).camp.exit.reason = .peerChanged)
    ∧ (let s := { snd .sweep with
        link := { linkIn .cooldown (some { peer .receiver with state := 0 }) with departure := true } }
      s.departs { peer .receiver with state := 0 } = true ∧ s.link.silence ≠ none
      ∧ (after .offTimeEnd s).camp.state = .stalled) := by decide +kernel

theorem test_meets_LinkLossStalls :
    (after .silenceExpiry { State.reset with link.signal0 := true }).link.signal0 = true
    ∧ (after (.lossOfSignal 1) { State.reset with link.signal0 := true, link.signal1 := true }).link.signal0 = true
    ∧ (after .silenceExpiry { snd .sweep with link := linkIn .training none }).latched .linkLost = false
    ∧ (after (.lossOfSignal 0) (snd .armed)).camp.state = .armed
    ∧ (after (.lossOfSignal 0) { snd .mirror with eng.inFlight := [flying] }).map = listMask [10]
    ∧ (after (.lossOfSignal 0) (snd .insync)).camp.peerWait = some 30000000
    ∧ (after .silenceExpiry { snd .freeze with cfg.relink := .latched }).camp.exit.reason = .linkLost
    ∧ (after .silenceExpiry (snd .plan)).camp.exit.reason = .linkLost
    ∧ (after .silenceExpiry { snd .drain with camp.handoverSent := true }).camp.state = .handedOver
    ∧ (after .silenceExpiry (waiting .insync .syncMark)).rx.buffer = [] := by decide +kernel

theorem test_meets_LinkLossStalls_rest :
    (after .silenceExpiry (snd .drain)).camp.stalledFrom = .drain
    ∧ (after .silenceExpiry { snd .drain with cfg.relink := .latched }).camp.exit.reason = .linkLost
    ∧ (after .silenceExpiry { snd .ending with camp.endReason := .abortCue, eng.inFlight := [flying] }).camp.exit.reason
      = .abortCue
    ∧ (after .silenceExpiry { snd .stalled with camp.resumeWait := some 1 }).camp.peerWait = some 30000000
    ∧ ((after .silenceExpiry { rcv .receiving with rx.applying := some chunk0 }).rx.applying.map fun a => a.silent)
      = some true
    ∧ (after .silenceExpiry { rcv .receiving with rx.applying := some { chunk0 with done := 8 } }).rx.applying = none
    ∧ (after .silenceExpiry { rcv .receiving with rx.applying := some { chunk0 with done := 8 } }).rx.appliedCount = 1 := by
  decide +kernel

theorem test_meets_Resets : (after .warmReset (snd .sweep)).camp.exit.reason = .warmReset
    ∧ (after .warmReset (snd .handedOver)).camp.exit.reason = .noReason
    ∧ (after .resetNHigh { State.reset with mgmt.inReset := true }).mgmt.inReset = false
    ∧ (after .softReset (snd .sweep)).link.control = [.abandon .softReset 3, .hello]
    ∧ (after .softReset (waiting .insync .syncMark)).link.reports = [.credit 1]
    ∧ (after (.powerOn 7) (snd .sweep)).mgmt.straps = 7 := by decide +kernel

end Sys2Proof.Tests
end

section
/-! SUPPORT. Rules of the memory path and of the management line that the statements of chapter 1 rest on: what acceptance is
outside reset, when a transfer is malformed, the share's clamp, and that a warm and a soft reset keep the settings. -/

namespace Sys2Proof.Machine

/-! ### Acceptance (R1, R175, R183) -/

/-- The line takes a command's effect outside reset and nothing in reset (R183). -/
theorem State.command_cases {s t : State} {f : State → State} (h : s.command f = .next t) :
    (s.mgmt.inReset = true ∧ t = s) ∨ (s.mgmt.inReset = false ∧ t = f s) := by
  cases hr : s.mgmt.inReset <;> simp_all [State.command]

theorem State.command_of_not_inReset {s : State} (f : State → State) (h : s.mgmt.inReset = false) :
    s.command f = .next (f s) := by
  simp [State.command, h]

theorem exec_nearTransfer {s : State} (tag : Fin 16) (kind : XferKind) (addr : Addr) (mask : Mask) (data : Line)
    (h : s.mgmt.inReset = false) :
    exec (.nearTransfer tag kind addr mask data) s = .next (s.arrive ⟨tag, kind, addr, mask, data⟩) := by
  simp [exec, execNearTransfer, h]

/-! ### The near port's own answers (R2, R3) -/

theorem mask_eq_zero_iff (mask : Mask) : mask = 0 ↔ ∀ i < 16, mask.getLsbD i = false := by
  constructor
  · rintro rfl i _
    exact BitVec.getLsbD_zero
  · intro h
    refine BitVec.eq_of_getLsbD_eq fun i hi => ?_
    rw [h i hi]
    exact BitVec.getLsbD_zero.symm

/-- R2's three lines: a line kind off its line, a single-beat kind off its beat, and a mask that selects no byte. -/
theorem malformed_iff (kind : XferKind) (addr : Addr) (mask : Mask) :
    malformed kind addr mask = true ↔
      kind ∈ [XferKind.readLine, .writeLine] ∧ addr.toNat % 64 ≠ 0
        ∨ kind ∈ [XferKind.read, .write, .lockRead, .lockWrite]
          ∧ (addr.toNat % 16 ≠ 0 ∨ ∀ i < 16, mask.getLsbD i = false) := by
  rw [← mask_eq_zero_iff]
  cases kind <;> simp [malformed, XferKind.isLine]

/-- A tag freed with an empty lock record and a termination on it are an answer at acceptance (R3). -/
theorem State.setTag_answer (s : State) (tag : Fin 16) (term : Term) :
    (s.setTag tag ⟨false, none⟩).answer tag term = s.answered tag term := rfl

theorem State.arrive_malformed {s : State} {x : Transfer} (hfree : s.mem.tags[x.tag].outstanding = false)
    (hbad : malformed x.kind x.addr x.mask = true) : s.arrive x = s.answered x.tag .fault := by
  have hrec : (s.tagRecord x.tag).outstanding = false := hfree
  rw [State.arrive, hrec, hbad, if_neg Bool.false_ne_true, if_pos rfl, State.setTag_answer]

/-! ### The share (R15, R17) -/

/-- The clamp of the share: 0 is replaced by 1 and a value above 64 by 64. -/
theorem clampTo_share (n : Nat) :
    (n = 0 → clampTo 1 64 n = 1) ∧ (64 < n → clampTo 1 64 n = 64) ∧ (1 ≤ n → n ≤ 64 → clampTo 1 64 n = n) := by
  unfold clampTo
  omega

theorem clampStatus_ne (n m : Nat) : clampStatus (n != m) = if n = m then .ok else .clamped := by
  by_cases h : n = m <;> simp [clampStatus, h]

/-- The share in force after SET_SHARE: the boosted one while it is above the new setting, else the setting (R15). -/
theorem Convergence.setShare_share (v : Convergence) (n : Nat) :
    (v.setShare n).share = if v.boost = true ∧ n < v.share then v.share else n := by
  by_cases h : v.boost = true ∧ n < v.share <;> simp [Convergence.setShare, h]

/-- SET_SHARE changes nothing of the convergence but the share in force and the boost, which ends unless it stays above the
setting (R15). -/
theorem Convergence.setShare_eq (v : Convergence) (n : Nat) :
    v.setShare n = { v with share := (v.setShare n).share, boost := v.boost && decide (n < v.share) } := by
  unfold Convergence.setShare
  split
  · next h => rw [h, ← (Bool.and_eq_true_iff.mp h).1]
  · next h => rw [Bool.eq_false_of_not_eq_true h]

/-! ### Resets keep the settings (R17, R183) -/

@[simp] theorem State.release_cfg (s : State) : s.release.cfg = s.cfg := by rw [State.release_eq]; rfl

@[simp] theorem State.recordReset_cfg (s : State) (reason : ExitReason) : (s.recordReset reason).cfg = s.cfg := by
  unfold State.recordReset
  split
  · exact s.writeExit_cfg reason
  · rfl

@[simp] theorem State.warm_cfg (s : State) : s.warm.cfg = s.cfg := rfl

@[simp] theorem State.softPath_cfg (s : State) : s.softPath.cfg = s.cfg := s.release_cfg

@[simp] theorem State.softEngines_cfg (s : State) : s.softEngines.cfg = s.cfg := rfl

@[simp] theorem State.softLists_cfg (s : State) (ran : Bool) (removed : Nat) :
    (s.softLists ran removed).cfg = s.cfg := by
  simp only [State.softLists]
  split_ifs <;> rfl

@[simp] theorem State.soft_cfg (s : State) : s.soft.cfg = s.cfg := by
  simp [State.soft]

theorem exec_warmReset_cfg {s t : State} (h : exec .warmReset s = .next t) : t.cfg = s.cfg := by
  obtain rfl : (s.recordReset .warmReset).warm = t := Host.Outcome.next.inj h
  simp

theorem exec_softReset_cfg {s t : State} (h : exec .softReset s = .next t) : t.cfg = s.cfg := by
  rcases State.command_cases (show s.command (fun s => (s.reply .ok []).soft) = .next t from h) with
    ⟨_, rfl⟩ | ⟨_, rfl⟩
  · rfl
  · simp

theorem exec_powerOn_cfg {straps : BitVec 3} {s t : State} (h : exec (.powerOn straps) s = .next t) :
    t.cfg = Settings.reset := by
  cases h
  rfl

/-- SET_SHARE taken outside reset, with the new share in force spelled out (R15, R17). -/
theorem exec_setShare {s : State} (share : Byte) (h : s.mgmt.inReset = false) :
    let n := clampTo 1 64 share.toNat
    let e := (s.conv.setShare n).share
    exec (.setShare share) s = .next (State.replied
      { s with
        cfg.share := n
        conv := { s.conv with share := e, boost := s.conv.boost && decide (n < s.conv.share) } }
      (if n = share.toNat then .ok else .clamped) [BitVec.ofNat 8 n, BitVec.ofNat 8 e]) := by
  intro n e
  have hexec : exec (.setShare share) s = execSetShare share s := rfl
  rw [hexec, execSetShare, State.command_of_not_inReset _ h, ← Convergence.setShare_eq, ← clampStatus_ne]
  rfl

end Sys2Proof.Machine

/-! PROOFS. The memory path (chapter 1): R2, and SET_SHARE (R15, R17). -/

namespace Sys2Proof.Proofs
open Sys2Proof.Machine

/-- Settles O18: the hypothesis is the model's own test of a malformed transfer, which on a free tag is answered. -/
theorem malformedTransferIsFaulted : Obligations.MalformedTransferIsFaulted := by
  intro tag kind addr mask data s hreset hfree hshape
  rw [exec_nearTransfer tag kind addr mask data hreset,
    State.arrive_malformed hfree ((malformed_iff kind addr mask).mpr hshape)]

/-- Settles O35: the witnesses are the clamped setting and the share in force after it; the resets' effects on the settings
are `exec_warmReset_cfg`, `exec_softReset_cfg` and `exec_powerOn_cfg`. -/
theorem setShare : Obligations.SetShare := by
  refine ⟨fun share s hreset => ?_, fun s t h => ?_, fun s t h => ?_, fun straps s t h => ?_⟩
  · obtain ⟨hzero, habove, hwithin⟩ := clampTo_share share.toNat
    refine ⟨clampTo 1 64 share.toNat, (s.conv.setShare (clampTo 1 64 share.toNat)).share, hzero, habove, hwithin,
      fun hboost => ?_, fun hboost => ?_, exec_setShare share hreset⟩
    · rw [Convergence.setShare_share, if_pos hboost]
    · rw [Convergence.setShare_share, if_neg hboost]
  · rw [exec_warmReset_cfg h]
  · rw [exec_softReset_cfg h]
  · rw [exec_powerOn_cfg h]
    rfl

end Sys2Proof.Proofs
end

section
/-! SUPPORT. Rules of the tile map that the live counts and the walks rest on: a count is the number of set bits, and the first
tile of a walk is the least set bit at or above its start. -/

namespace Sys2Proof.Machine

/-! ### Numbers of set bits -/

/-- The set bits of the low half and those of the high half add up. -/
theorem countP_testBit_halves (k m : Nat) :
    (List.range (2 ^ (k + 1))).countP m.testBit
      = (List.range (2 ^ k)).countP (m % 2 ^ 2 ^ k).testBit + (List.range (2 ^ k)).countP (m / 2 ^ 2 ^ k).testBit := by
  have hlow : (List.range (2 ^ k)).countP (m % 2 ^ 2 ^ k).testBit = (List.range (2 ^ k)).countP m.testBit :=
    List.countP_congr fun i hi => by simp [Nat.testBit_mod_two_pow, List.mem_range.mp hi]
  have hhigh : (m / 2 ^ 2 ^ k).testBit = m.testBit ∘ (2 ^ k + ·) := by
    funext i
    simp [Nat.testBit_div_two_pow, Nat.add_comm]
  rw [hlow, hhigh, pow_succ, mul_two, List.range_add, List.countP_append, List.countP_map]

theorem countBits_eq_countP (k m : Nat) : countBits k m = (List.range (2 ^ k)).countP m.testBit := by
  induction k generalizing m with
  | zero => rcases Nat.mod_two_eq_zero_or_one m with h | h <;> simp [countBits, Nat.testBit_zero, h]
  | succ k ih =>
    rw [countBits]
    split_ifs with hzero hones
    · rw [hzero, eq_comm, List.countP_eq_zero]
      simp
    · subst hones
      have hall : (List.range (2 ^ (k + 1))).countP (2 ^ 2 ^ (k + 1) - 1).testBit = (List.range (2 ^ (k + 1))).length :=
        List.countP_eq_length.mpr fun i hi => by simpa [Nat.testBit_two_pow_sub_one] using hi
      rw [hall, List.length_range]
    · rw [ih, ih, countP_testBit_halves]

theorem countTiles_eq_length (m : TileMap) :
    countTiles m = ((List.range 131072).filter fun t => m.getLsbD t).length := by
  rw [← List.countP_eq_length_filter]
  exact countBits_eq_countP 17 m.toNat

theorem countTiles_eq_card (m : TileMap) :
    countTiles m = ((Finset.range 131072).filter fun t => m.getLsbD t = true).card := by
  rw [countTiles_eq_length, ← List.countP_eq_length_filter, ← Nat.count_eq_card_filter_range, Nat.count]
  simp

/-! ### One bit set or cleared -/

/-- Setting a clear bit adds its tile to the set tiles. -/
theorem countTiles_setBit (m : TileMap) (t : Nat) (ht : t < 131072) (hclear : m.getLsbD t = false) :
    countTiles (setBit m t) = countTiles m + 1 := by
  have hinsert : ((Finset.range 131072).filter fun u => (setBit m t).getLsbD u = true)
      = insert t ((Finset.range 131072).filter fun u => m.getLsbD u = true) := by
    ext u
    simp only [Finset.mem_filter, Finset.mem_range, Finset.mem_insert, getLsbD_setBit, ht, decide_true, Bool.true_and,
      Bool.or_eq_true, decide_eq_true_eq]
    by_cases h : u = t
    · simp [h, ht]
    · simp [h, Ne.symm h]
  rw [countTiles_eq_card, countTiles_eq_card, hinsert, Finset.card_insert_of_notMem (by simp [hclear])]

theorem setBit_clearBit (m : TileMap) (t : Nat) (h : m.getLsbD t = true) : setBit (clearBit m t) t = m := by
  refine BitVec.eq_of_getLsbD_eq fun u _ => ?_
  rw [getLsbD_setBit, getLsbD_clearBit]
  by_cases htu : t = u
  · subst htu
    simp [h, BitVec.lt_of_getLsbD h]
  · simp [htu]

/-- Clearing a set bit is undone by setting it, which adds one. -/
theorem countTiles_clearBit (m : TileMap) (t : Nat) (h : m.getLsbD t = true) :
    countTiles (clearBit m t) + 1 = countTiles m := by
  have hclear : (clearBit m t).getLsbD t = false := by simp [getLsbD_clearBit]
  rw [← countTiles_setBit _ t (BitVec.lt_of_getLsbD h) hclear, setBit_clearBit m t h]

/-! ### The first tile of a walk (6.2) -/

/-- Where one of the bits 0 to 2^k - 1 is set, the search by halves ends at the least set bit. -/
theorem lowestBit_isLeast (k m : Nat) (h : m % 2 ^ 2 ^ k ≠ 0) : IsLeast {i | m.testBit i = true} (lowestBit k m) := by
  induction k generalizing m with
  | zero =>
    have hbit : m.testBit 0 = true := by
      rw [Nat.testBit_zero]
      simpa using h
    exact ⟨hbit, fun i _ => Nat.zero_le i⟩
  | succ k ih =>
    rw [lowestBit]
    split_ifs with hlow
    · have hhigh : m / 2 ^ 2 ^ k % 2 ^ 2 ^ k ≠ 0 := by
        intro hz
        rw [pow_succ, mul_two, pow_add, Nat.mod_mul, hlow, hz] at h
        exact h rfl
      obtain ⟨hset, hleast⟩ := ih _ hhigh
      refine ⟨by simpa [Nat.testBit_div_two_pow, Nat.add_comm] using hset, fun i hi => ?_⟩
      have hge : 2 ^ k ≤ i := by
        by_contra hlt
        have hclear := Nat.testBit_mod_two_pow m (2 ^ k) i
        simp [hlow, Nat.lt_of_not_le hlt, show m.testBit i = true from hi] at hclear
      have hin : i - 2 ^ k ∈ {j | (m / 2 ^ 2 ^ k).testBit j = true} := by
        simpa [Nat.testBit_div_two_pow, Nat.sub_add_cancel hge] using hi
      have := hleast hin
      omega
    · obtain ⟨hset, hleast⟩ := ih (m % 2 ^ 2 ^ k) (by rwa [Nat.mod_mod])
      simp only [Set.mem_ofPred_eq, Nat.testBit_mod_two_pow, Bool.and_eq_true, decide_eq_true_eq] at hset
      refine ⟨hset.2, fun i hi => ?_⟩
      rcases Nat.lt_or_ge i (2 ^ k) with hlt | hge
      · exact hleast (by simpa [Nat.testBit_mod_two_pow, hlt] using hi)
      · exact hset.1.le.trans hge

theorem lowestBit_shiftRight_isLeast {k w : Nat} (hw : w = 2 ^ k) (m : BitVec w) (start : Nat)
    (h : m.toNat >>> start ≠ 0) :
    IsLeast {i | (m.toNat >>> start).testBit i = true} (lowestBit k (m.toNat >>> start)) := by
  subst hw
  have hfits : m.toNat >>> start < 2 ^ 2 ^ k := (Nat.shiftRight_le m.toNat start).trans_lt m.isLt
  exact lowestBit_isLeast k _ (by rwa [Nat.mod_eq_of_lt hfits])

theorem shiftRight_eq_zero_iff (m : TileMap) (start : Nat) :
    m.toNat >>> start = 0 ↔ ∀ t, start ≤ t → m.getLsbD t = false := by
  constructor
  · intro h t ht
    have hbit := Nat.testBit_shiftRight (i := start) (j := t - start) m.toNat
    rwa [h, Nat.zero_testBit, Nat.add_sub_cancel' ht, eq_comm] at hbit
  · intro h
    refine Nat.zero_of_testBit_eq_false fun i => ?_
    rw [Nat.testBit_shiftRight]
    exact h (start + i) (Nat.le_add_right start i)

theorem firstTile_eq_none_iff (m : TileMap) (start : Nat) :
    firstTile m start = none ↔ ∀ t, start ≤ t → m.getLsbD t = false := by
  rw [← shiftRight_eq_zero_iff, firstTile]
  simp

/-- A walk that finds a tile finds the least set bit at or above its start. -/
theorem firstTile_isLeast {m : TileMap} {start t : Nat} (h : firstTile m start = some t) :
    IsLeast {u | start ≤ u ∧ m.getLsbD u = true} t := by
  simp only [firstTile] at h
  split_ifs at h with hzero
  obtain rfl := Option.some.inj h
  obtain ⟨hset, hleast⟩ := lowestBit_shiftRight_isLeast (k := 17) rfl m start hzero
  rw [Set.mem_ofPred_eq, Nat.testBit_shiftRight] at hset
  refine ⟨⟨Nat.le_add_right _ _, hset⟩, fun u hu => ?_⟩
  obtain ⟨hstart, hbit⟩ := hu
  have hin : (m.toNat >>> start).testBit (u - start) = true := by
    rwa [Nat.testBit_shiftRight, Nat.add_sub_cancel' hstart]
  have := hleast hin
  omega

theorem firstTile_eq_some_iff (m : TileMap) (start t : Nat) :
    firstTile m start = some t ↔
      start ≤ t ∧ m.getLsbD t = true ∧ ∀ u, start ≤ u → u < t → m.getLsbD u = false := by
  constructor
  · intro h
    obtain ⟨⟨hstart, hset⟩, hleast⟩ := firstTile_isLeast h
    refine ⟨hstart, hset, fun u hu hut => Bool.eq_false_of_not_eq_true fun hbit => ?_⟩
    exact Nat.not_le_of_lt hut (hleast ⟨hu, hbit⟩)
  · rintro ⟨hstart, hset, hbelow⟩
    have hleast : IsLeast {u | start ≤ u ∧ m.getLsbD u = true} t := by
      refine ⟨⟨hstart, hset⟩, fun u hu => Nat.le_of_not_lt fun hut => ?_⟩
      exact Bool.false_ne_true ((hbelow u hu.1 hut).symm.trans hu.2)
    cases hfound : firstTile m start with
    | none => exact absurd ((firstTile_eq_none_iff m start).mp hfound t hstart) (by simp [hset])
    | some u => rw [(firstTile_isLeast hfound).unique hleast]

/-! ### The live counts D and L (R33) -/

theorem getLsbD_listMask (ts : List Nat) (u : Nat) :
    (listMask ts).getLsbD u = (decide (u < 131072) && decide (u ∈ ts)) := by
  have key : ∀ m : TileMap,
      (ts.foldl setBit m).getLsbD u = (m.getLsbD u || (decide (u < 131072) && decide (u ∈ ts))) := by
    induction ts with
    | nil => simp
    | cons t ts ih =>
      intro m
      rw [List.foldl_cons, ih, getLsbD_setBit]
      by_cases h : u = t
      · cases hu : decide (t < 131072) <;> simp [h, hu]
      · simp [h, Ne.symm h]
  simp [listMask, key]

theorem State.getLsbD_quarantineMask (s : State) (t : Nat) :
    s.quarantineMask.getLsbD t = (decide (t < 131072) && s.quarantined t) := by
  rw [State.quarantineMask, getLsbD_listMask, State.quarantined]
  congr 1
  rw [Bool.eq_iff_iff]
  simp [and_assoc]

theorem State.getLsbD_dirtyMask (s : State) (p : Policy) {t : Nat} (ht : t < 131072) :
    (s.dirtyMask p).getLsbD t = (s.bit t && s.scopeIs p t && !s.quarantined t) := by
  have hin : decide (t < 131072) = true := decide_eq_true ht
  rw [State.dirtyMask, BitVec.getLsbD_and, BitVec.getLsbD_and, BitVec.getLsbD_not, getLsbD_policyMask,
    State.getLsbD_quarantineMask, hin, Bool.true_and, Bool.true_and, Bool.true_and, State.bit, State.scopeIs]

theorem State.countTiles_dirtyMask (s : State) (p : Policy) :
    countTiles (s.dirtyMask p)
      = ((List.range 131072).filter fun t => s.bit t && s.scopeIs p t && !s.quarantined t).length := by
  rw [countTiles_eq_length, List.filter_congr fun t ht => s.getLsbD_dirtyMask p (List.mem_range.mp ht)]

end Sys2Proof.Machine

/-! SUPPORT. Rules of the plan commands (chapter 2): what the codes of their enumerations name, when a region number is locked
and when an extent overlaps, what replacing an entry does to the table, and the outcomes of each command. -/

namespace Sys2Proof.Machine

/-! ### Codes (12.4, R185) -/

theorem policyOf_eq_some_iff {b : Byte} {p : Policy} : policyOf b = some p ↔ b = p.code := by
  constructor
  · unfold policyOf
    split <;> rintro ⟨⟩ <;> exact BitVec.eq_of_toNat_eq ‹_›
  · rintro rfl
    cases p <;> rfl

theorem boolOf_eq_some_iff {b : Byte} {v : Bool} : boolOf b = some v ↔ b = boolByte v := by
  constructor
  · unfold boolOf
    split <;> rintro ⟨⟩ <;> exact BitVec.eq_of_toNat_eq ‹_›
  · rintro rfl
    cases v <;> rfl

theorem bankOf_eq_some_iff {b : Byte} {k : Bank} : bankOf b = some k ↔ b = k.code := by
  constructor
  · unfold bankOf
    split <;> rintro ⟨⟩ <;> exact BitVec.eq_of_toNat_eq ‹_›
  · rintro rfl
    cases k <;> rfl

theorem Policy.code_le (p : Policy) : p.code.toNat ≤ 3 := by cases p <;> decide

theorem boolByte_le (v : Bool) : (boolByte v).toNat ≤ 1 := by cases v <;> decide

theorem Bank.code_le (k : Bank) : k.code.toNat ≤ 1 := by cases k <;> decide

theorem policyOf_eq_none {b : Byte} (h : 3 < b.toNat) : policyOf b = none := by
  refine Option.eq_none_iff_forall_ne_some.mpr fun p hp => ?_
  rw [policyOf_eq_some_iff.mp hp] at h
  exact Nat.not_lt_of_le p.code_le h

theorem boolOf_eq_none {b : Byte} (h : 1 < b.toNat) : boolOf b = none := by
  refine Option.eq_none_iff_forall_ne_some.mpr fun v hv => ?_
  rw [boolOf_eq_some_iff.mp hv] at h
  exact Nat.not_lt_of_le (boolByte_le v) h

theorem bankOf_eq_none {b : Byte} (h : 1 < b.toNat) : bankOf b = none := by
  refine Option.eq_none_iff_forall_ne_some.mpr fun k hk => ?_
  rw [bankOf_eq_some_iff.mp hk] at h
  exact Nat.not_lt_of_le k.code_le h

theorem exists_policy_code {b : Byte} (h : b.toNat ≤ 3) : ∃ p : Policy, b = p.code := by
  have hcases : b = 0 ∨ b = 1 ∨ b = 2 ∨ b = 3 := by bv_omega
  rcases hcases with rfl | rfl | rfl | rfl
  exacts [⟨.copy, rfl⟩, ⟨.late, rfl⟩, ⟨.zero, rfl⟩, ⟨.skip, rfl⟩]

theorem exists_boolByte {b : Byte} (h : b.toNat ≤ 1) : ∃ v : Bool, b = boolByte v := by
  have hcases : b = 0 ∨ b = 1 := by bv_omega
  rcases hcases with rfl | rfl
  exacts [⟨false, rfl⟩, ⟨true, rfl⟩]

theorem exists_bank_code {b : Byte} (h : b.toNat ≤ 1) : ∃ k : Bank, b = k.code := by
  have hcases : b = 0 ∨ b = 1 := by bv_omega
  rcases hcases with rfl | rfl
  exacts [⟨.bankA, rfl⟩, ⟨.bankB, rfl⟩]

theorem Policy.beq_copy_or_late (p : Policy) : (p == .copy || p == .late) = (p.code == 0 || p.code == 1) := by
  cases p <;> rfl

/-- The fields of LOAD_REGION name no entry where an enumeration lies outside its set (R185). -/
theorem regionOf_eq_none (base count : BitVec 32) {policy regionEnd : Byte}
    (h : 3 < policy.toNat ∨ 1 < regionEnd.toNat) : regionOf base count policy regionEnd = none := by
  unfold regionOf
  rcases h with h | h
  · rw [policyOf_eq_none h]
  · rw [boolOf_eq_none h]
    cases policyOf policy <;> rfl

theorem exists_regionOf (base count : BitVec 32) {policy regionEnd : Byte} (hpolicy : policy.toNat ≤ 3)
    (hend : regionEnd.toNat ≤ 1) :
    ∃ r : Region, regionOf base count policy regionEnd = some r ∧ r.base = base.toNat ∧ r.count = count.toNat
      ∧ r.policy.code = policy ∧ boolByte r.regionEnd = regionEnd := by
  obtain ⟨p, rfl⟩ := exists_policy_code hpolicy
  obtain ⟨v, rfl⟩ := exists_boolByte hend
  refine ⟨⟨base.toNat, count.toNat, p, v⟩, ?_, rfl, rfl, rfl, rfl⟩
  rw [regionOf, policyOf_eq_some_iff.mpr rfl, boolOf_eq_some_iff.mpr rfl]

/-! ### The states that the checks ask for (2.2, R22) -/

theorem State.runs_iff (s : State) :
    s.runs = true ↔ s.mgmt.role = .sender ∧ s.camp.state ≠ .idle ∧ s.camp.state ≠ .armed := by
  simp [State.runs, and_assoc]

theorem ReceiverState.active_iff (r : ReceiverState) : r.active = true ↔ r = .receiving ∨ r = .insync := by
  cases r <;> simp [ReceiverState.active]

theorem State.receiving_iff (s : State) :
    s.receiving = true ↔ s.mgmt.role = .receiver ∧ (s.rx.state = .receiving ∨ s.rx.state = .insync) := by
  simp [State.receiving, ReceiverState.active_iff]

theorem State.locked_iff (s : State) (n : Nat) : s.locked n = true ↔ s.runs = true ∧ n ∈ s.tables.lockedSet := by
  simp [State.locked]

/-! ### The region table (2.1, R20) -/

theorem Tables.region_val (tb : Tables) (m : Fin 32) : tb.region m.val = tb.regions[m] := by
  simp [Tables.region]

theorem Tables.mem_records (tb : Tables) (e : Nat × Region) :
    e ∈ tb.records ↔ ∃ m : Fin 32, m.val = e.1 ∧ tb.regions[m] = some e.2 := by
  obtain ⟨n, r⟩ := e
  simp only [Tables.records, List.mem_filterMap, List.mem_range, Option.map_eq_some_iff, Prod.mk.injEq]
  constructor
  · rintro ⟨n, hn, r, hr, rfl, rfl⟩
    exact ⟨⟨n, hn⟩, rfl, by rw [← tb.region_val]; exact hr⟩
  · rintro ⟨m, rfl, hr⟩
    exact ⟨m, m.isLt, r, by rw [tb.region_val]; exact hr, rfl, rfl⟩

theorem Region.getLsbD_mask (r : Region) (tile : Nat) :
    r.mask.getLsbD tile = decide (r.base ≤ tile ∧ tile < r.base + r.count ∧ tile < 131072) :=
  (getLsbD_runMask r.base r.count tile).trans (decide_eq_decide.mpr and_rotate)

theorem Region.overlaps_iff (a b : Region) :
    a.overlaps b = true ↔
      ∃ tile, a.base ≤ tile ∧ tile < a.base + a.count ∧ b.base ≤ tile ∧ tile < b.base + b.count := by
  rw [Region.overlaps, decide_eq_true_eq]
  constructor
  · intro h
    exact ⟨max a.base b.base, by omega⟩
  · rintro ⟨tile, htile⟩
    omega

theorem Tables.overlap_iff (tb : Tables) (n : Nat) (r : Region) :
    tb.overlap n r = true ↔ ∃ (m : Fin 32) (q : Region) (tile : Nat), m.val ≠ n ∧ tb.regions[m] = some q
      ∧ q.base ≤ tile ∧ tile < q.base + q.count ∧ r.base ≤ tile ∧ tile < r.base + r.count := by
  simp only [Tables.overlap, List.any_eq_true, Tables.mem_records, Bool.and_eq_true, bne_iff_ne, Region.overlaps_iff]
  constructor
  · rintro ⟨e, ⟨m, hm, hq⟩, hn, tile, htile⟩
    exact ⟨m, e.2, tile, hm ▸ hn, hq, htile⟩
  · rintro ⟨m, q, tile, hn, hq, htile⟩
    exact ⟨(m.val, q), ⟨m, rfl, hq⟩, hn, tile, htile⟩

theorem Tables.setRegion_regions (tb : Tables) (n : Nat) (r : Option Region) (m : Fin 32) :
    (tb.setRegion n r).regions[m] = if m.val = n then r else tb.regions[m] := by
  simp [Tables.setRegion, Vector.getElem_setIfInBounds, eq_comm]

/-- A tile that lies in no valid entry is treated as SKIP (R20). -/
theorem Tables.policyAt_eq_skip {tb : Tables} {tile : Nat}
    (h : ∀ (m : Fin 32) (r : Region), tb.regions[m] = some r → r.has tile = false) : tb.policyAt tile = .skip := by
  have hnone : tb.regionAt tile = none := by
    refine List.findSome?_eq_none_iff.mpr fun e he => ?_
    obtain ⟨i, hi, rfl⟩ := List.mem_iff_getElem.mp he
    cases hr : tb.regions.toList[i] with
    | none => rfl
    | some r => simp [h ⟨i, by simpa using hi⟩ r (by simpa using hr)]
  rw [Tables.policyAt, hnone]

/-! ### LOAD_REGION (R22, R23) -/

theorem State.regionCheck_range (s : State) {n : Nat} {r : Region}
    (h : 31 < n ∨ r.count = 0 ∨ s.mgmt.size < r.base + r.count) : s.regionCheck n r = .range := by
  unfold State.regionCheck
  by_cases hn : 31 < n
  · rw [if_pos hn]
  · rw [if_neg hn, if_pos (h.resolve_left hn)]

/-- Past the two RANGE checks the lock and the overlap decide. -/
theorem State.regionCheck_inRange (s : State) {n : Nat} {r : Region} (hn : n ≤ 31) (hcount : r.count ≠ 0)
    (hsize : r.base + r.count ≤ s.mgmt.size) :
    s.regionCheck n r = if s.locked n then .locked else if s.tables.overlap n r then .overlap else .ok := by
  have hwithin : ¬ (r.count = 0 ∨ s.mgmt.size < r.base + r.count) := by omega
  rw [State.regionCheck, if_neg (Nat.not_lt_of_le hn), if_neg hwithin]

section
variable {s : State} {region : Byte} {base count : BitVec 32} {policy regionEnd : Byte}

theorem exec_loadRegion_eq : exec (.loadRegion region base count policy regionEnd) s
    = execLoadRegion region base count policy regionEnd s := rfl

theorem exec_loadRegion_busy (hreset : s.mgmt.inReset = false) (hbusy : s.receiving = true) :
    exec (.loadRegion region base count policy regionEnd) s = .next (s.replied .busy []) := by
  rw [exec_loadRegion_eq, execLoadRegion, State.command_of_not_inReset _ hreset, if_pos hbusy]
  rfl

theorem exec_loadRegion_unnamed (hreset : s.mgmt.inReset = false) (hfree : ¬ s.receiving = true)
    (hregion : regionOf base count policy regionEnd = none) :
    exec (.loadRegion region base count policy regionEnd) s = .next (s.replied .range []) := by
  rw [exec_loadRegion_eq, execLoadRegion, State.command_of_not_inReset _ hreset, if_neg hfree, hregion]
  rfl

theorem exec_loadRegion_refused {r : Region} {status : Status} (hreset : s.mgmt.inReset = false)
    (hfree : ¬ s.receiving = true) (hregion : regionOf base count policy regionEnd = some r)
    (hcheck : s.regionCheck region.toNat r = status) (hstatus : status ≠ .ok) :
    exec (.loadRegion region base count policy regionEnd) s = .next (s.replied status []) := by
  rw [exec_loadRegion_eq, execLoadRegion, State.command_of_not_inReset _ hreset, if_neg hfree, hregion]
  simp only [hcheck]
  rfl

theorem exec_loadRegion_taken {r : Region} (hreset : s.mgmt.inReset = false) (hfree : ¬ s.receiving = true)
    (hregion : regionOf base count policy regionEnd = some r) (hcheck : s.regionCheck region.toNat r = .ok) :
    exec (.loadRegion region base count policy regionEnd) s
      = .next ((s.takeRegion region.toNat r).replied .ok []) := by
  rw [exec_loadRegion_eq, execLoadRegion, State.command_of_not_inReset _ hreset, if_neg hfree, hregion]
  simp only [hcheck]
  rfl

end

/-- A taken entry sets the bits of a COPY or LATE extent during a campaign, and else none (R23). -/
theorem State.takeRegion_bit (s : State) (n : Nat) (r : Region) (tile : Nat) :
    (s.takeRegion n r).bit tile = (s.bit tile || (s.runs && (r.policy == .copy || r.policy == .late)
      && decide (r.base ≤ tile ∧ tile < r.base + r.count ∧ tile < 131072))) := by
  simp only [State.takeRegion, State.bit]
  split_ifs with h
  · rw [BitVec.getLsbD_or, Region.getLsbD_mask, h, Bool.true_and]
  · rw [Bool.eq_false_of_not_eq_true h, Bool.false_and, Bool.or_false]

theorem State.takeRegion_frame (s : State) (n : Nat) (r : Region) :
    s.changesOnly ((s.takeRegion n r).replied .ok []) [.tables, .map, .mgmt] := by
  intro b hb
  cases b <;> first | rfl | simp at hb

/-! ### CLEAR_REGION (R24) -/

theorem exec_clearRegion {s : State} (region : Byte) (hreset : s.mgmt.inReset = false) :
    exec (.clearRegion region) s = .next (
      if s.receiving then s.replied .busy []
      else if 31 < region.toNat then s.replied .range []
      else if s.locked region.toNat then s.replied .locked []
      else State.replied { s with tables := s.tables.setRegion region.toNat none } .ok []) := by
  have hexec : exec (.clearRegion region) s = execClearRegion region s := rfl
  rw [hexec, execClearRegion, State.command_of_not_inReset _ hreset]
  rfl

/-! ### LOAD_BANK (R26) -/

section
variable {s : State} {bank : Byte} {entries : List Byte}

theorem exec_loadBank_eq : exec (.loadBank bank entries) s = execLoadBank bank entries s := rfl

theorem exec_loadBank_busy (hreset : s.mgmt.inReset = false) (hbusy : s.receiving = true) :
    exec (.loadBank bank entries) s = .next (s.replied .busy []) := by
  rw [exec_loadBank_eq, execLoadBank, State.command_of_not_inReset _ hreset, if_pos hbusy]
  rfl

theorem exec_loadBank_unnamed (hreset : s.mgmt.inReset = false) (hfree : ¬ s.receiving = true)
    (hbank : bankOf bank = none) : exec (.loadBank bank entries) s = .next (s.replied .range []) := by
  rw [exec_loadBank_eq, execLoadBank, State.command_of_not_inReset _ hreset, if_neg hfree, hbank]
  rfl

theorem exec_loadBank_named (b : Bank) (hreset : s.mgmt.inReset = false) (hfree : ¬ s.receiving = true) :
    exec (.loadBank b.code entries) s = .next (
      if 64 < entries.length ∨ ∃ e ∈ entries, 31 < e.toNat then s.replied .range []
      else if s.runs = true ∧ (s.tables.active = b ∨ s.tables.pending = some b) then s.replied .locked []
      else State.replied { s with tables := s.tables.setBank b (entries.map BitVec.toNat) } .ok []) := by
  rw [exec_loadBank_eq, execLoadBank, State.command_of_not_inReset _ hreset, if_neg hfree,
    bankOf_eq_some_iff.mpr rfl]
  simp only [Bool.or_eq_true, decide_eq_true_eq, List.any_eq_true, Bool.and_eq_true, beq_iff_eq]
  rfl

end

theorem Tables.setBank_same (tb : Tables) (b : Bank) (l : List Nat) : (tb.setBank b l).entries b = l := by
  cases b <;> rfl

theorem Tables.setBank_other (tb : Tables) {b c : Bank} (l : List Nat) (h : c ≠ b) :
    (tb.setBank b l).entries c = tb.entries c :=
  match b, c, h with
  | .bankA, .bankB, _ => rfl
  | .bankB, .bankA, _ => rfl

theorem Tables.setBank_frame (tb : Tables) (b : Bank) (l : List Nat) :
    tb.setBank b l = { tb with bankA := (tb.setBank b l).bankA, bankB := (tb.setBank b l).bankB } := by
  cases b <;> rfl

/-! ### SELECT_BANK (R27) -/

section
variable {s : State} {bank : Byte}

theorem exec_selectBank_eq : exec (.selectBank bank) s = execSelectBank bank s := rfl

theorem exec_selectBank_unnamed (hreset : s.mgmt.inReset = false) (hbank : bankOf bank = none) :
    exec (.selectBank bank) s = .next (s.replied .range []) := by
  rw [exec_selectBank_eq, execSelectBank, State.command_of_not_inReset _ hreset, hbank]
  rfl

theorem exec_selectBank_receiver (b : Bank) (hreset : s.mgmt.inReset = false) (hrole : s.mgmt.role = .receiver) :
    exec (.selectBank b.code) s = .next (
      if s.rx.state.active then s.replied .busy [] else State.replied { s with tables.active := b } .ok []) := by
  rw [exec_selectBank_eq, execSelectBank, State.command_of_not_inReset _ hreset, bankOf_eq_some_iff.mpr rfl]
  simp only [hrole]
  rfl

theorem exec_selectBank_sender (b : Bank) (hreset : s.mgmt.inReset = false) (hrole : s.mgmt.role = .sender) :
    exec (.selectBank b.code) s = .next (s.selectOnSender b) := by
  rw [exec_selectBank_eq, execSelectBank, State.command_of_not_inReset _ hreset, bankOf_eq_some_iff.mpr rfl]
  simp only [hrole]

end

theorem State.selectOnSender_quiet {s : State} (b : Bank) (h : s.camp.state = .idle ∨ s.camp.state = .armed) :
    s.selectOnSender b = State.replied { s with tables.active := b } .ok [] := by
  rcases h with h | h <;> rw [State.selectOnSender, h] <;> rfl

theorem State.selectOnSender_passing {s : State} (b : Bank) (h : s.camp.state = .sweep ∨ s.camp.state = .settle) :
    s.selectOnSender b
      = State.replied { s with tables.pending := if s.tables.active = b then none else some b } .ok [] := by
  rcases h with h | h <;> rw [State.selectOnSender, h] <;> rfl

theorem State.selectOnSender_busy {s : State} (b : Bank)
    (h : s.camp.state ∉ [SenderState.idle, .armed, .sweep, .settle]) : s.selectOnSender b = s.replied .busy [] := by
  rw [State.selectOnSender]
  cases hstate : s.camp.state <;> first | rfl | simp [hstate] at h

end Sys2Proof.Machine

/-! PROOFS. Regions, banks and the tile map (chapter 2): the counts and walks of the tile map (R33), LOAD_REGION (R22, R23),
CLEAR_REGION (R24), and LOAD_BANK and SELECT_BANK (R26, R27). -/

namespace Sys2Proof.Proofs
open Sys2Proof.Machine

/-- Settles O17: a count is that of the set bits by the recursion over halves, and a walk's tile is the least element of the
set bits from its start on. -/
theorem tileMapCounts : Obligations.TileMapCounts :=
  ⟨fun s => ⟨s.countTiles_dirtyMask .copy, s.countTiles_dirtyMask .late⟩, countTiles_eq_length, countTiles_setBit,
    countTiles_clearBit, fun m start => ⟨firstTile_eq_none_iff m start, firstTile_eq_some_iff m start⟩⟩

/-- Settles O31: the command has one answer t, and each clause finds it by the check that decides there. -/
theorem loadRegion : Obligations.LoadRegion := by
  intro region base count policy regionEnd s hreset running sharesATile
  obtain ⟨t, ht⟩ : ∃ t, exec (.loadRegion region base count policy regionEnd) s = .next t := ⟨_, rfl⟩
  have answer : ∀ u, exec (.loadRegion region base count policy regionEnd) s = .next u → t = u :=
    fun u hu => Host.Outcome.next.inj (ht.symm.trans hu)
  refine ⟨t, ht, fun hbusy => answer _ (exec_loadRegion_busy hreset (s.receiving_iff.mpr hbusy)), fun hidle => ?_⟩
  have hfree : ¬ s.receiving = true := mt s.receiving_iff.mp hidle
  by_cases hunnamed : 3 < policy.toNat ∨ 1 < regionEnd.toNat
  · refine ⟨fun _ => answer _ (exec_loadRegion_unnamed hreset hfree (regionOf_eq_none base count hunnamed)),
      fun _ _ _ => ?_⟩
    omega
  obtain ⟨r, hregion, hbase, hcount, hpolicy, hend⟩ :=
    exists_regionOf base count (policy := policy) (regionEnd := regionEnd) (by omega) (by omega)
  have refused : ∀ {status : Status}, s.regionCheck region.toNat r = status → status ≠ .ok → t = s.replied status [] :=
    fun hcheck hstatus => answer _ (exec_loadRegion_refused hreset hfree hregion hcheck hstatus)
  have hzero : count = 0 ↔ count.toNat = 0 := BitVec.toNat_inj.symm
  refine ⟨fun h => refused (s.regionCheck_range (.inl (h.resolve_right hunnamed))) (by decide),
    fun hn _ _ => ⟨fun h => refused (s.regionCheck_range ?_) (by decide), fun hsome hsize => ?_⟩⟩
  · rw [hzero] at h
    omega
  rw [ne_eq, hzero] at hsome
  have hcheck := s.regionCheck_inRange (r := r) hn (by omega) (by omega)
  have hlocked : s.locked region.toNat = true ↔ running ∧ region.toNat ∈ s.tables.lockedSet := by
    rw [State.locked_iff, State.runs_iff]
  have hoverlap : s.tables.overlap region.toNat r = true ↔ sharesATile := by
    rw [Tables.overlap_iff, hbase, hcount]
  refine ⟨fun hr hl => refused ?_ (by decide), fun hl ho => refused ?_ (by decide), fun hl ho => ?_⟩
  · rw [hcheck, if_pos (hlocked.mpr ⟨hr, hl⟩)]
  · rw [hcheck, if_neg (mt hlocked.mp hl), if_pos (hoverlap.mpr ho)]
  · rw [if_neg (mt hlocked.mp hl), if_neg (mt hoverlap.mp ho)] at hcheck
    obtain rfl := answer _ (exec_loadRegion_taken hreset hfree hregion hcheck)
    refine ⟨r, hbase, hcount, hpolicy, hend, s.tables.setRegion_regions region.toNat (some r), rfl, rfl, rfl, rfl,
      fun tile => ?_, rfl, s.takeRegion_frame region.toNat r⟩
    have hruns : s.runs = decide running := by rw [Bool.eq_iff_iff, State.runs_iff, decide_eq_true_eq]
    rw [← hruns, ← hpolicy, ← hbase, ← hcount, ← Policy.beq_copy_or_late]
    exact s.takeRegion_bit region.toNat r tile

/-- Settles O32: no entry but the cleared one could hold such a tile, and that one is no longer valid. -/
theorem clearRegion : Obligations.ClearRegion := by
  intro region s hreset busy locked
  have hbusy : s.receiving = true ↔ busy := s.receiving_iff
  have hlocked : s.locked region.toNat = true ↔ locked := by
    rw [State.locked_iff, State.runs_iff, and_assoc, and_assoc]
  simp only [exec_clearRegion region hreset, hbusy, hlocked]
  refine ⟨fun h => ?_, fun h hn => ?_, fun h hn hl => ?_, fun h hn hl => ?_⟩
  · rw [if_pos h]
  · rw [if_neg h, if_pos hn]
  · rw [if_neg h, if_neg (Nat.not_lt_of_le hn), if_pos hl]
  · rw [if_neg h, if_neg (Nat.not_lt_of_le hn), if_neg hl]
    refine ⟨_, rfl, s.tables.setRegion_regions region.toNat none, rfl, fun tile _ hothers => ?_⟩
    have hskip : (s.tables.setRegion region.toNat none).policyAt tile = .skip := by
      refine Tables.policyAt_eq_skip fun m r hr => ?_
      rw [Tables.setRegion_regions] at hr
      split_ifs at hr with hm
      exact hothers m hm r hr
    exact hskip

/-- Settles O33: LOAD_BANK by its checks in their order, SELECT_BANK by the role and the state. -/
theorem loadAndSelectBank : Obligations.LoadAndSelectBank := by
  refine ⟨fun bank entries s hreset => ?_, fun bank s hreset => ⟨fun h => ?_, ?_⟩⟩
  · intro busy running
    have hbusy : s.receiving = true ↔ busy := s.receiving_iff
    have hruns : s.runs = true ↔ running := s.runs_iff
    refine ⟨fun h => exec_loadBank_busy hreset (hbusy.mpr h), fun hfree hbad => ?_, ?_⟩
    · by_cases hbank : 1 < bank.toNat
      · exact exec_loadBank_unnamed hreset (mt hbusy.mp hfree) (bankOf_eq_none hbank)
      · obtain ⟨b, rfl⟩ := exists_bank_code (Nat.le_of_not_lt hbank)
        rw [exec_loadBank_named b hreset (mt hbusy.mp hfree), if_pos (hbad.resolve_left hbank)]
    · rintro hfree hlength hentries b rfl
      have hgood : ¬ (64 < entries.length ∨ ∃ e ∈ entries, 31 < e.toNat) := by
        rintro (h | ⟨e, he, h⟩)
        · exact Nat.not_lt_of_le hlength h
        · exact Nat.not_lt_of_le (hentries e he) h
      rw [exec_loadBank_named b hreset (mt hbusy.mp hfree), if_neg hgood, ← hruns]
      refine ⟨fun hlocked => by rw [if_pos hlocked], fun hopen => ?_⟩
      rw [if_neg hopen]
      refine ⟨_, rfl, s.tables.setBank_same b _, fun c hc => s.tables.setBank_other _ hc, ?_⟩
      exact congrArg (fun tb => State.replied { s with tables := tb } .ok []) (s.tables.setBank_frame b _)
  · exact exec_selectBank_unnamed hreset (bankOf_eq_none h)
  · rintro b rfl
    refine ⟨fun hrole hstate => ?_, ?_, fun hrole hstate => ?_, fun hrole hstate => ?_⟩
    · rw [exec_selectBank_receiver b hreset hrole, if_pos ((ReceiverState.active_iff _).mpr hstate)]
    · rintro (⟨hrole, hstate⟩ | ⟨hrole, hstate⟩)
      · have hinactive : ¬ s.rx.state.active = true := by rcases hstate with h | h <;> simp [h, ReceiverState.active]
        rw [exec_selectBank_receiver b hreset hrole, if_neg hinactive]
      · rw [exec_selectBank_sender b hreset hrole, State.selectOnSender_quiet b hstate]
    · rw [exec_selectBank_sender b hreset hrole, State.selectOnSender_passing b hstate]
      exact ⟨fun hother => by rw [if_neg hother], fun hactive => by rw [if_pos hactive]⟩
    · rw [exec_selectBank_sender b hreset hrole, State.selectOnSender_busy b hstate]

end Sys2Proof.Proofs
end

section
/-! SUPPORT. Rules of a link loss (R75 to R77, R129, R155): what the link, the campaign and the receiver are left in at an entry
to DOWN, each said once. -/

namespace Sys2Proof.Machine

/-! ### Blocks -/

theorem State.agreesOn_trans {s u t : State} {b : Block} (hsu : s.agreesOn u b) (hut : u.agreesOn t b) :
    s.agreesOn t b := by
  cases b <;> exact Eq.trans hut hsu

theorem State.changesOnly_trans {s u t : State} {as bs cs : List Block} (hsu : s.changesOnly u as)
    (hut : u.changesOnly t bs) (has : as ⊆ cs) (hbs : bs ⊆ cs) : s.changesOnly t cs :=
  fun b hb => State.agreesOn_trans (hsu b fun h => hb (has h)) (hut b fun h => hb (hbs h))

theorem State.latch_frame (s : State) (l : Latch) : s.changesOnly (s.latch l) [.mgmt] := by
  intro b hb
  cases b <;> first | rfl | simp at hb

theorem State.withCamp_frame (s : State) (camp : Campaign) : s.changesOnly { s with camp := camp } [.camp] := by
  intro b hb
  cases b <;> first | rfl | simp at hb

theorem State.withRx_frame (s : State) (rx : Receiver) : s.changesOnly { s with rx := rx } [.rx] := by
  intro b hb
  cases b <;> first | rfl | simp at hb

theorem State.latched_latch (s : State) (l : Latch) : (s.latch l).latched l = true := by
  cases l <;> simp [State.latched, State.latch, Latch.bit]

/-! ### Entry to DOWN (R129) -/

theorem LinkState.mem_open_iff (l : LinkState) : l ∈ [LinkState.up, .cooldown] ↔ l.isOpen = true := by
  rw [LinkState.isOpen_iff]
  simp

/-- The receive lanes' signals after a command: LOSS_OF_SIGNAL takes one away. -/
def State.signalsAfter (s : State) (c : Instr) : State :=
  { s with
    link.signal0 := s.link.signal0 && c != .lossOfSignal 0
    link.signal1 := s.link.signal1 && c != .lossOfSignal 1 }

/-- The part as the link enters DOWN, before the loss is handed on (R119, R129, R157). -/
def State.cut (s : State) : State :=
  { s with
    link := { Link.reset with signal0 := s.link.signal0, signal1 := s.link.signal1, linkOut := s.link.linkOut }
    txq.credits := 0
    rx.arrived := 0
    rx.lossCredited := 0 }

theorem State.signalsAfter_cut_frame (s : State) (c : Instr) : s.changesOnly (s.signalsAfter c).cut [.link, .txq, .rx] := by
  intro b hb
  cases b <;> first | rfl | simp at hb

/-- From a closed link nothing but the link's own state and the counts of the stream change. -/
theorem State.linkDown_closed {s : State} (h : s.link.state.isOpen = false) : s.linkDown = s.cut := by
  rw [State.linkDown, h]
  rfl

theorem State.linkDown_sender {s : State} (h : s.link.state.isOpen = true) (hr : s.mgmt.role = .sender) :
    s.linkDown = (s.cut.latch .linkLost).campaignLinkLoss := by
  simp only [State.linkDown, h, hr]
  rfl

theorem State.linkDown_receiver {s : State} (h : s.link.state.isOpen = true) (hr : s.mgmt.role = .receiver) :
    s.linkDown = (s.cut.latch .linkLost).receiverLinkLoss := by
  simp only [State.linkDown, h, hr]
  rfl

theorem State.loseLane_eq (s : State) (lane : Fin 2) : s.loseLane lane =
    { s with link.signal0 := s.link.signal0 && lane != 0, link.signal1 := s.link.signal1 && lane != 1 } := by
  match lane with
  | 0 => simp [State.loseLane]
  | 1 => simp [State.loseLane]

theorem lossOfSignal_bne (lane k : Fin 2) : (Instr.lossOfSignal lane != .lossOfSignal k) = (lane != k) := by
  revert lane k
  decide

theorem State.signalsAfter_lossOfSignal (s : State) (lane : Fin 2) :
    s.signalsAfter (.lossOfSignal lane) = s.loseLane lane := by
  rw [State.loseLane_eq, State.signalsAfter, lossOfSignal_bne, lossOfSignal_bne]

theorem State.signalsAfter_silenceExpiry (s : State) : s.signalsAfter .silenceExpiry = s := by
  have hbne : ∀ k : Fin 2, (Instr.silenceExpiry != .lossOfSignal k) = true := by decide
  simp [State.signalsAfter, hbne]

theorem exec_silenceExpiry (s : State) :
    exec .silenceExpiry s = .next (if s.link.silence.isSome then s.linkDown else s) := rfl

theorem exec_lossOfSignal_down {s : State} (lane : Fin 2) (h : s.link.state = .down) :
    exec (.lossOfSignal lane) s = .next (s.loseLane lane) := by
  have hexec : exec (.lossOfSignal lane) s = execLossOfSignal lane s := rfl
  have hstate : (s.loseLane lane).link.state = .down := by rw [State.loseLane_eq, h]
  rw [hexec, execLossOfSignal, if_pos hstate]

theorem exec_lossOfSignal_linked {s : State} (lane : Fin 2) (h : s.link.state ≠ .down) :
    exec (.lossOfSignal lane) s = .next (s.loseLane lane).linkDown := by
  have hexec : exec (.lossOfSignal lane) s = execLossOfSignal lane s := rfl
  have hstate : (s.loseLane lane).link.state ≠ .down := by rwa [State.loseLane_eq]
  rw [hexec, execLossOfSignal, if_neg hstate]

/-- Silence, and the loss of a lane's signal outside DOWN, take the link DOWN (R129, R131). -/
theorem exec_linkDown {c : Instr} {s : State}
    (h : c = .silenceExpiry ∧ s.link.silence ≠ none ∨ (∃ lane, c = .lossOfSignal lane) ∧ s.link.state ≠ .down) :
    exec c s = .next (s.signalsAfter c).linkDown := by
  rcases h with ⟨rfl, hsilence⟩ | ⟨⟨lane, rfl⟩, hstate⟩
  · rw [exec_silenceExpiry, if_pos (Option.isSome_iff_ne_none.mpr hsilence), State.signalsAfter_silenceExpiry]
  · rw [exec_lossOfSignal_linked lane hstate, State.signalsAfter_lossOfSignal]

/-! ### What a link loss keeps -/

/-- What the campaign and the receiver leave alone at a link loss: the link in DOWN, the credits, the counts of the stream
and every condition that is latched. -/
structure State.LossKept (s t : State) : Prop where
  link : t.link = s.link
  credits : t.txq.credits = s.txq.credits
  arrived : t.rx.arrived = s.rx.arrived
  lossCredited : t.rx.lossCredited = s.rx.lossCredited
  latched : ∀ l, s.latched l = true → t.latched l = true

theorem State.LossKept.refl (s : State) : s.LossKept s := ⟨rfl, rfl, rfl, rfl, fun _ h => h⟩

theorem State.LossKept.trans {s u t : State} (hsu : s.LossKept u) (hut : u.LossKept t) : s.LossKept t where
  link := hut.link.trans hsu.link
  credits := hut.credits.trans hsu.credits
  arrived := hut.arrived.trans hsu.arrived
  lossCredited := hut.lossCredited.trans hsu.lossCredited
  latched l h := hut.latched l (hsu.latched l h)

/-! ### The link-loss steps (R75) -/

theorem State.bit_setDirty (s : State) (t u : Nat) :
    (s.setDirty t).bit u = (s.bit u || (decide (t < 131072) && decide (t = u))) := by
  rw [State.setDirty_eq]
  exact getLsbD_setBit s.map t u

theorem State.bit_foldl_setDirty (l : List Nat) (s : State) (u : Nat) :
    (l.foldl State.setDirty s).bit u = true ↔ s.bit u = true ∨ u ∈ l ∧ u < 131072 := by
  induction l generalizing s with
  | nil => simp
  | cons t l ih =>
    rw [List.foldl_cons, ih, State.bit_setDirty]
    simp only [Bool.or_eq_true, Bool.and_eq_true, decide_eq_true_eq, List.mem_cons]
    grind

/-- Setting tiles dirty one after another changes the map and W alone. -/
theorem State.foldl_setDirty_frame (l : List Nat) (s : State) : l.foldl State.setDirty s =
    { s with map := (l.foldl State.setDirty s).map, conv.w := (l.foldl State.setDirty s).conv.w } := by
  induction l generalizing s with
  | nil => rfl
  | cons t l ih =>
    rw [List.foldl_cons, ih, State.setDirty_eq]

/-- The tiles a link loss sets dirty: those in flight and those of the MIRROR entries in the queue (R75). -/
def State.lossTiles (s : State) : List Nat := (s.eng.inFlight.map fun e => e.tile) ++ s.txq.mirrorTiles

/-- The state in which these tiles have been set dirty. -/
def State.lossDirtied (s : State) : State := s.lossTiles.foldl State.setDirty s

theorem State.bit_lossDirtied (s : State) (u : Nat) :
    s.lossDirtied.bit u = true ↔ s.bit u = true ∨ u ∈ s.lossTiles ∧ u < 131072 :=
  State.bit_foldl_setDirty s.lossTiles s u

theorem State.setDirty_abandonAll (s : State) (t : Nat) : s.abandonAll.setDirty t = (s.setDirty t).abandonAll := by
  rw [State.setDirty_eq, State.setDirty_eq]
  rfl

/-- The link-loss steps set the tiles dirty, drop the work, release the held transfers, stop the hold budget and drop the
mismatch count (R75, R172). -/
theorem State.lossSteps_eq_release (s : State) : s.lossSteps =
    { s.lossDirtied.dropWork.release with
      camp.holdBudget := none
      aud.mismatch := 0 } := by
  have hcommute : s.txq.mirrorTiles.foldl State.setDirty s.dirtyFlying.abandonAll
      = (s.txq.mirrorTiles.foldl State.setDirty s.dirtyFlying).abandonAll :=
    List.foldl_hom State.abandonAll fun u t => u.setDirty_abandonAll t
  have hdirtied : s.txq.mirrorTiles.foldl State.setDirty s.dirtyFlying = s.lossDirtied := by
    rw [State.lossDirtied, State.lossTiles, List.foldl_append]
    rfl
  rw [State.lossSteps, hcommute, hdirtied]
  rfl

theorem State.lossDirtied_frame (s : State) :
    s.lossDirtied = { s with map := s.lossDirtied.map, conv.w := s.lossDirtied.conv.w } :=
  State.foldl_setDirty_frame s.lossTiles s

/-- What the link-loss steps leave (R75). -/
theorem State.lossSteps_eq (s : State) : s.lossSteps =
    { s with
      mem := { s.mem with
        queue := s.mem.queue ++ s.mem.holdList
        holdList := []
        outstanding := s.mem.withoutCopies }
      mon := { s.mon with
        regionHold := none
        drainHold := false
        passage := s.mon.passage ++ s.mem.holdList.map fun x => ⟨x.tag, x.kind, tileOf x.addr⟩ }
      map := s.lossDirtied.map
      camp := { s.camp with shareOverride := false, copyBegun := false, holdBudget := none }
      conv.w := s.lossDirtied.conv.w
      eng := { s.eng with inFlight := [], demandQueue := [] }
      aud.mismatch := 0
      txq := s.txq.emptied } := by
  have hdrop : s.lossDirtied.dropWork =
      { s with
        mem := { s.mem with outstanding := s.mem.withoutCopies }
        map := s.lossDirtied.map
        conv.w := s.lossDirtied.conv.w
        eng := { s.eng with inFlight := [], demandQueue := [] }
        txq := s.txq.emptied } := by
    rw [s.lossDirtied_frame, ← State.dropWork_mem]
    rfl
  rw [State.lossSteps_eq_release, hdrop, State.release_eq]
  rfl

theorem State.lossSteps_link (s : State) : s.lossSteps.link = s.link := by rw [State.lossSteps_eq]

theorem mem_lossTiles_of_inFlight {s : State} {e : InFlight} (he : e ∈ s.eng.inFlight) : e.tile ∈ s.lossTiles :=
  List.mem_append_left _ (List.mem_map_of_mem he)

theorem mem_lossTiles_of_mirror {s : State} {e : TxEntry} (he : e ∈ s.txq.queue) {tag : Fin 16} {ready : Bool}
    {addr : Addr} {line : Bool} {mask : Mask} {data : Line} (hbody : e.body = .mirror tag ready addr line mask data) :
    tileOf addr ∈ s.lossTiles := by
  refine List.mem_append_right _ (List.mem_filterMap.mpr ⟨e, he, ?_⟩)
  rw [hbody]

theorem tileOf_lt (addr : Addr) : tileOf addr < 131072 := by
  have := addr.isLt
  simp only [tileOf, Config.tileBytes]
  omega

theorem State.lossSteps_lossKept (s : State) : s.LossKept s.lossSteps := by
  rw [State.lossSteps_eq]
  exact ⟨rfl, rfl, rfl, rfl, fun _ h => h⟩

/-! ### What a loss brings the campaign to, on a link that is closed -/

section
variable {s : State} (hclosed : s.link.state.isOpen = false)
include hclosed

/-- A closed link raises no HELLO (R140). -/
theorem State.inState_closed (st : SenderState) : s.inState st = { s with camp.state := st } := by
  have hno : ¬ (s.link.state = .up ∨ s.link.state = .cooldown) := by
    rw [← LinkState.isOpen_iff, hclosed]
    decide
  simp [State.inState, hno]

theorem State.inState_link (st : SenderState) : (s.inState st).link = s.link := by
  rw [State.inState_closed hclosed]

/-- The stall: the timers stop and the peer wait starts (R76). -/
theorem State.stall_eq : s.stall =
    { s with
      camp := { s.camp.stopTimers with
        state := .stalled
        stalledFrom := s.camp.state
        peerWait := some (s.cfg.peerWait * 1000000) } } := by
  rw [State.stall, State.enter_eq, State.inState_closed hclosed]
  rfl

theorem State.stall_lossKept : s.LossKept s.stall := by
  rw [State.stall_eq hclosed]
  exact ⟨rfl, rfl, rfl, rfl, fun _ h => h⟩

/-- An end of the campaign raises no ABANDON on a closed link (R74). -/
theorem State.ended_link (reason : ExitReason) : (s.ended reason).link = s.link := by
  have hup : s.link.state ≠ .up := by
    intro h
    rw [h] at hclosed
    exact absurd hclosed (by decide)
  rw [State.ended, if_neg hup]
  exact State.inState_link (by exact hclosed) .idle

theorem State.ended_lossKept (reason : ExitReason) : s.LossKept (s.ended reason) :=
  ⟨State.ended_link hclosed reason, rfl, rfl, rfl, fun _ h => h⟩

theorem State.handedOver_lossKept (reason : ExitReason) : s.LossKept (s.handedOver reason) where
  link := State.inState_link (by exact hclosed) .handedOver
  credits := rfl
  arrived := rfl
  lossCredited := rfl
  latched l h := by
    have hlatches : (s.handedOver reason).mgmt.latches
        = if s.mem.holdList = [] then s.mgmt.latches else s.mgmt.latches ||| BitVec.twoPow 11 5 := by
      rw [State.handedOver, State.inState]
      split <;> rfl
    rw [State.latched] at h
    rw [State.latched, hlatches]
    split
    · exact h
    · rw [BitVec.getLsbD_or, h, Bool.true_or]

end

/-! ### The campaign at a link loss (R75 to R77) -/

/-- The campaign stands in a state that a link loss stalls or, under LATCHED, ends (R72, R76). -/
def State.StallsAtLoss (s : State) : Prop :=
  s.camp.state ∈ [SenderState.delay, .sweep, .settle, .mirror, .audit, .insync, .freeze]
    ∨ s.camp.state = .drain ∧ s.camp.handoverSent = false

theorem State.campaignLinkLoss_resting (s : State) (h : s.camp.state ∈ [SenderState.idle, .armed, .handedOver]) :
    s.campaignLinkLoss = s := by
  simp only [List.mem_cons, List.not_mem_nil, or_false] at h
  rcases h with h | h | h <;> simp only [State.campaignLinkLoss, h]

theorem State.campaignLinkLoss_plan (s : State) (h : s.camp.state = .plan) :
    s.campaignLinkLoss = s.lossSteps.ended .linkLost := by
  simp only [State.campaignLinkLoss, h, State.close_eq]

theorem State.campaignLinkLoss_ending (s : State) (h : s.camp.state = .ending) :
    s.campaignLinkLoss = s.lossSteps.ended s.camp.endReason := by
  simp only [State.campaignLinkLoss, h, State.close_eq]

theorem State.campaignLinkLoss_handoverSent (s : State) (h : s.camp.state = .drain) (hsent : s.camp.handoverSent = true) :
    s.campaignLinkLoss = s.handedOver .handoverUnconfirmed := by
  simp only [State.campaignLinkLoss, h, hsent, if_true, State.enterHandedOver_eq]

theorem State.campaignLinkLoss_stalled (s : State) (h : s.camp.state = .stalled) :
    s.campaignLinkLoss =
      { s with
        camp := if s.camp.resumeWait = none then s.camp else
          { s.camp with
            resumeWait := none
            resumeRepeat := none
            peerWait := some (s.cfg.peerWait * 1000000) } } := by
  simp only [State.campaignLinkLoss, h]
  cases s.camp.resumeWait <;> rfl

/-- Under way, the campaign ends under LATCHED and stalls under AUTO; only the event that INSYNC is left for comes first. -/
theorem State.campaignLinkLoss_underWay (s : State) (h : s.StallsAtLoss) : ∃ m : Management,
    m.latches = s.mgmt.latches ∧ s.campaignLinkLoss =
      if s.cfg.relink = .latched then (State.lossSteps { s with mgmt := m }).ended .linkLost
      else (State.lossSteps { s with mgmt := m }).stall := by
  by_cases hinsync : s.camp.state = .insync
  · refine ⟨(s.raise .insyncLeave).mgmt, rfl, ?_⟩
    simp only [State.campaignLinkLoss, hinsync, State.close_eq]
    rfl
  · refine ⟨s.mgmt, rfl, ?_⟩
    have hquiet : s.campaignLinkLoss
        = if s.cfg.relink = .latched then s.lossSteps.close .linkLost else s.lossSteps.stall := by
      rcases h with h | ⟨h, hsent⟩
      · simp only [List.mem_cons, List.not_mem_nil, or_false, hinsync, false_or] at h
        rcases h with h | h | h | h | h | h <;> simp only [State.campaignLinkLoss, h]
      · simp only [State.campaignLinkLoss, h, hsent, Bool.false_eq_true, if_false]
    rw [hquiet, State.close_eq]

theorem State.campaignLinkLoss_lossKept (s : State) (hclosed : s.link.state.isOpen = false) :
    s.LossKept s.campaignLinkLoss := by
  have ends : ∀ {u : State} (reason : ExitReason), s.LossKept u → s.LossKept (u.lossSteps.ended reason) := by
    intro u reason hu
    have hsteps := hu.trans u.lossSteps_lossKept
    exact hsteps.trans (State.ended_lossKept (by rw [hsteps.link, hclosed]) reason)
  by_cases hrun : s.StallsAtLoss
  · obtain ⟨m, hm, hloss⟩ := State.campaignLinkLoss_underWay _ hrun
    have hraised : s.LossKept { s with mgmt := m } :=
      ⟨rfl, rfl, rfl, rfl, fun l hl => by rwa [State.latched, hm]⟩
    rw [hloss]
    split
    · exact ends .linkLost hraised
    · have hsteps := hraised.trans (State.lossSteps_lossKept _)
      exact hsteps.trans (State.stall_lossKept (by rw [hsteps.link, hclosed]))
  · cases h : s.camp.state with
    | idle | armed | handedOver =>
      rw [State.campaignLinkLoss_resting _ (by simp [h])]
      exact .refl s
    | stalled =>
      rw [State.campaignLinkLoss_stalled _ h]
      exact ⟨rfl, rfl, rfl, rfl, fun _ hl => hl⟩
    | plan =>
      rw [State.campaignLinkLoss_plan _ h]
      exact ends _ (.refl s)
    | ending =>
      rw [State.campaignLinkLoss_ending _ h]
      exact ends _ (.refl s)
    | drain =>
      have hsent : s.camp.handoverSent = true := by
        by_contra hsent
        exact hrun (.inr ⟨h, Bool.eq_false_of_not_eq_true hsent⟩)
      rw [State.campaignLinkLoss_handoverSent _ h hsent]
      exact State.handedOver_lossKept hclosed _
    | delay | sweep | settle | mirror | audit | insync | freeze => exact absurd (.inl (by simp [h])) hrun

/-! ### The receiver at a link loss (R155) -/

theorem State.enterReceiver_lossKept (s : State) (hclosed : s.link.state.isOpen = false) (st : ReceiverState) :
    s.LossKept (s.enterReceiver st) := by
  unfold State.enterReceiver
  split
  · exact .refl s
  · have hsilent : State.helloOnChange { s with rx.state := st } = { s with rx.state := st } := by
      rw [State.helloOnChange_eq]
      simp [hclosed]
    rw [hsilent]
    unfold State.syncEvent
    split <;> exact ⟨rfl, rfl, rfl, rfl, fun _ h => h⟩

theorem State.applyHandover_lossKept (s : State) (hclosed : s.link.state.isOpen = false) (a : Applying) :
    s.LossKept (s.applyHandover a) := by
  unfold State.applyHandover
  split
  · have hemptied : s.LossKept { s with rx.demands := [], rx.expired := [] } := ⟨rfl, rfl, rfl, rfl, fun _ h => h⟩
    exact hemptied.trans (State.enterReceiver_lossKept _ (by exact hclosed) .live)
  · exact .refl s

/-- No frame in application can be applied: its transfers have not all terminated, or it is a HANDOVER that waits for the zero
fill (R158, R162). -/
def State.FrameGoesOn (s : State) : Prop :=
  ∀ a, s.rx.applying = some a → a.done < a.total
    ∨ a.body = .handover ∧ s.rx.fill ≠ .complete ∧ (s.rx.state = .receiving ∨ s.rx.state = .insync)

theorem State.tryFinish_unended {s : State} (h : s.FrameGoesOn) : s.tryFinish = s := by
  unfold State.tryFinish
  split
  · rfl
  · next a ha =>
    rw [if_neg]
    rcases h a ha with hgoing | ⟨hbody, hfill, hstate⟩
    · simp [Applying.ended, hgoing]
    · have hready : s.handoverReady a = false := by
        rcases hstate with hstate | hstate <;> simp [State.handoverReady, hbody, hfill, hstate, ReceiverState.active]
      simp [hready]

/-- With its transfers terminated a frame other than HANDOVER that met a link loss is applied, and hands nothing (R155). -/
theorem State.tryFinish_silent {s : State} {a : Applying} (ha : s.rx.applying = some a) (hsilent : a.silent = true)
    (hended : a.total ≤ a.done) (hbody : a.body ≠ .handover) :
    s.tryFinish = { s with rx.applying := none, rx.appliedCount := s.rx.appliedCount + 1 } := by
  have happly : s.applyHandover a = s := by simp [State.applyHandover, hbody]
  have hnow : (a.ended && s.handoverReady a && s.finishRoom a) = true := by
    simp [Applying.ended, State.handoverReady, State.finishRoom, hended, hbody, hsilent]
  simp only [State.tryFinish, ha, hnow, if_true, happly, State.finishFrame_silent s a hsilent]

/-- The receiver as the loss reaches it: the frame in application silent, the buffer and the assembly dropped (R155). -/
def State.silenced (s : State) : State :=
  { s with
    rx.applying := s.rx.applying.map fun a => { a with silent := true }
    rx.buffer := []
    rx.assembly := none
    rx.appliedCount := 0 }

theorem State.receiverLinkLoss_eq (s : State) : s.receiverLinkLoss = s.silenced.tryFinish := rfl

theorem State.silenced_applying {s : State} {a : Applying} (h : s.silenced.rx.applying = some a) :
    ∃ b, s.rx.applying = some b ∧ { b with silent := true } = a := Option.map_eq_some_iff.mp h

theorem State.receiverLinkLoss_lossKept (s : State) (hclosed : s.link.state.isOpen = false) :
    s.LossKept s.receiverLinkLoss := by
  have hsilenced : s.LossKept s.silenced := ⟨rfl, rfl, rfl, rfl, fun _ h => h⟩
  rw [State.receiverLinkLoss_eq, State.tryFinish]
  split
  · exact hsilenced
  · next a ha =>
    split
    · obtain ⟨b, -, rfl⟩ := State.silenced_applying ha
      have happlied := hsilenced.trans (s.silenced.applyHandover_lossKept hclosed { b with silent := true })
      rw [State.finishFrame_silent _ _ rfl]
      exact happlied.trans ⟨rfl, rfl, rfl, rfl, fun _ h => h⟩
    · exact hsilenced

theorem State.receiverLinkLoss_unended (s : State) (h : s.FrameGoesOn) : s.receiverLinkLoss = s.silenced := by
  rw [State.receiverLinkLoss_eq]
  refine State.tryFinish_unended fun a ha => ?_
  obtain ⟨b, hb, rfl⟩ := State.silenced_applying ha
  exact h b hb

theorem State.receiverLinkLoss_ended (s : State) {a : Applying} (ha : s.rx.applying = some a)
    (hended : a.total ≤ a.done) (hbody : a.body ≠ .handover) :
    s.receiverLinkLoss = { s.silenced with rx.applying := none, rx.appliedCount := 1 } := by
  rw [State.receiverLinkLoss_eq]
  exact State.tryFinish_silent (congrArg (Option.map _) ha) rfl hended hbody

/-! ### The link loss as a whole -/

theorem State.linkDown_lossKept (s : State) : s.cut.LossKept s.linkDown := by
  cases hopen : s.link.state.isOpen with
  | false =>
    rw [State.linkDown_closed hopen]
    exact .refl _
  | true =>
    have hlatch : s.cut.LossKept (s.cut.latch .linkLost) :=
      ⟨rfl, rfl, rfl, rfl, fun l hl => by
        rw [State.latched] at hl
        rw [State.latched, State.latch_mgmt, BitVec.getLsbD_or, hl, Bool.true_or]⟩
    cases hr : s.mgmt.role with
    | sender =>
      rw [State.linkDown_sender hopen hr]
      exact hlatch.trans (State.campaignLinkLoss_lossKept _ rfl)
    | receiver =>
      rw [State.linkDown_receiver hopen hr]
      exact hlatch.trans (State.receiverLinkLoss_lossKept _ rfl)

/-- From UP and COOLDOWN the loss is latched (R129). -/
theorem State.linkDown_latched {s : State} (hopen : s.link.state.isOpen = true) :
    s.linkDown.latched .linkLost = true := by
  have hlatch := s.cut.latched_latch .linkLost
  cases hr : s.mgmt.role with
  | sender =>
    rw [State.linkDown_sender hopen hr]
    exact (State.campaignLinkLoss_lossKept _ rfl).latched _ hlatch
  | receiver =>
    rw [State.linkDown_receiver hopen hr]
    exact (State.receiverLinkLoss_lossKept _ rfl).latched _ hlatch

end Sys2Proof.Machine

/-! PROOFS. Link loss (R75, R76, R119, R126, R129, R131, R155, R157): O59. -/

namespace Sys2Proof.Proofs
open Sys2Proof.Machine

/-- Settles O59: the command is an entry to DOWN, which on a closed link changes the link's own state alone; from UP and
COOLDOWN the loss, once latched, is handed to the campaign or to the receiver, and the state v it reaches them in agrees with s
on all that the clauses name. -/
theorem linkLossStalls : Obligations.LinkLossStalls := by
  intro c s
  refine ⟨?_, ?_, fun h => ⟨_, exec_linkDown h, ?_⟩⟩
  · rintro ⟨rfl, hsilence⟩
    rw [exec_silenceExpiry, hsilence]
    rfl
  · rintro lane rfl hdown
    rw [exec_lossOfSignal_down lane hdown, State.loseLane_eq]
  let v : State := (s.signalsAfter c).cut.latch .linkLost
  have hv : s.changesOnly v [.link, .txq, .rx, .mgmt] :=
    State.changesOnly_trans (s.signalsAfter_cut_frame c) (State.latch_frame _ _) (by decide) (by decide)
  have hkept := (s.signalsAfter c).linkDown_lossKept
  refine ⟨hkept.link, hkept.credits, hkept.arrived, hkept.lossCredited, fun hclosed => ?_, fun hopen => ?_⟩
  · have hclosed : (s.signalsAfter c).link.state.isOpen = false :=
      Bool.eq_false_of_not_eq_true (mt (LinkState.mem_open_iff _).mpr hclosed)
    rw [State.linkDown_closed hclosed]
    exact ⟨s.signalsAfter_cut_frame c, rfl, rfl⟩
  have hopen : (s.signalsAfter c).link.state.isOpen = true := (LinkState.mem_open_iff _).mp hopen
  have hsender : s.mgmt.role = .sender → (s.signalsAfter c).linkDown = v.campaignLinkLoss := State.linkDown_sender hopen
  have hreceiver : s.mgmt.role = .receiver → (s.signalsAfter c).linkDown = v.receiverLinkLoss :=
    State.linkDown_receiver hopen
  refine ⟨State.linkDown_latched hopen, fun hr hst => ?_, fun hr hst => ?_, fun hr hst => ?_, fun hr hst => ?_,
    fun hr hst => ?_, fun hr hst hsent => ?_, fun hr hgoing => ?_, fun hr a ha hended hbody => ?_⟩
  · rw [hsender hr, v.campaignLinkLoss_resting hst]
    exact ⟨rfl, rfl⟩
  · obtain ⟨m, -, hloss⟩ := v.campaignLinkLoss_underWay hst
    rw [hsender hr, hloss]
    refine ⟨fun hauto => ?_, fun hlatched => ?_⟩
    · have hauto : v.cfg.relink ≠ .latched := by rw [show v.cfg.relink = .auto from hauto]; decide
      have hbit := State.bit_lossDirtied { v with mgmt := m }
      rw [if_neg hauto, State.stall_eq (by rw [State.lossSteps_link]; rfl), State.lossSteps_eq]
      exact ⟨rfl, rfl, rfl, rfl, rfl, rfl, rfl, rfl, rfl, rfl, rfl, rfl, rfl, rfl, rfl, rfl,
        fun tile ht => (hbit tile).mpr (.inl ht),
        fun e he ht => (hbit e.tile).mpr (.inr ⟨mem_lossTiles_of_inFlight he, ht⟩),
        fun e he tag r addr l m d hbody =>
          (hbit (tileOf addr)).mpr (.inr ⟨mem_lossTiles_of_mirror he hbody, tileOf_lt addr⟩)⟩
    · rw [if_pos (show v.cfg.relink = .latched from hlatched)]
      refine ⟨rfl, rfl, ?_, rfl⟩
      rw [State.lossSteps_eq]
      rfl
  · rw [hsender hr, v.campaignLinkLoss_plan hst]
    exact ⟨rfl, rfl⟩
  · rw [hsender hr, v.campaignLinkLoss_ending hst]
    exact ⟨rfl, rfl, rfl, rfl⟩
  · rw [hsender hr, v.campaignLinkLoss_stalled hst]
    refine ⟨rfl, State.changesOnly_trans hv (v.withCamp_frame _) (by decide) (by decide)⟩
  · rw [hsender hr, v.campaignLinkLoss_handoverSent hst hsent]
    exact ⟨rfl, rfl⟩
  · rw [hreceiver hr, v.receiverLinkLoss_unended hgoing]
    exact ⟨rfl, State.changesOnly_trans hv (v.withRx_frame _) (by decide) (by decide)⟩
  · rw [hreceiver hr, v.receiverLinkLoss_ended ha hended hbody]
    exact ⟨rfl, rfl, rfl, rfl, State.changesOnly_trans hv (v.withRx_frame _) (by decide) (by decide)⟩

end Sys2Proof.Proofs
end

section
/-! SUPPORT. Rules of the way up (R76, R77, R130 to R134, R141): the lanes, the training, the entry to UP with the relink decision
it may bring, and the return from COOLDOWN. -/

namespace Sys2Proof.Machine

/-! ### Lanes and training (R129, R130) -/

theorem State.lanes_eq_pattern_iff (s : State) : s.lanes = .pattern ↔ s.mgmt.inReset = false
    ∧ (s.link.state = .training ∨ s.link.state = .down ∧ s.cfg.linkEnable = true ∧ s.link.quiet = none) := by
  unfold State.lanes
  cases s.mgmt.inReset with
  | true => simp
  | false => cases s.link.state <;> simp

theorem State.lanes_eq_frames_iff (s : State) : s.lanes = .frames ↔ s.mgmt.inReset = false
    ∧ s.link.state ∈ [LinkState.blanking, .up, .cooldown] := by
  unfold State.lanes
  cases s.mgmt.inReset with
  | true => simp
  | false =>
    cases s.link.state with
    | down => by_cases h : (s.cfg.linkEnable && s.link.quiet.isNone) = true <;> simp [h]
    | training | blanking | up | cooldown => simp

theorem State.tryTrain_eq (s : State) : s.tryTrain =
    if s.link.state = .down ∧ s.cfg.linkEnable = true ∧ s.link.quiet = none ∧ s.link.signal0 = true
        ∧ s.link.signal1 = true ∧ s.mgmt.inReset = false then
      { s with link.state := .training, link.silence := some 5000 }
    else s := by
  simp [State.tryTrain, Config.silenceTime, and_assoc]

/-! ### The campaign start's steps (R58, R60) -/

theorem nextNumber_eq (n : Seq) : nextNumber n = if n = 0xffff#16 then 1 else n + 1 := by
  have hlast : n + 1 = 0 ↔ n = 0xffff#16 := by bv_omega
  simp only [nextNumber, hlast]

theorem State.planFits_iff (s : State) (size : Nat) :
    s.planFits size = true ↔ ∀ r ∈ s.tables.validRegions s.tables.active, r.2.base + r.2.count ≤ size := by
  simp [State.planFits, State.plan]

/-- Steps 1 to 6 of a campaign start. -/
theorem State.startSteps_eq (s : State) (p : PeerRecord) : s.startSteps p =
    { s with
      camp := { s.camp with
        number := nextNumber s.camp.number
        breakFlag := false
        auditPassed := false
        tries := 0
        handoverSent := false
        passNumber := 0
        synced := false
        peerIdentity := p.identity
        peerSize := p.size }
      link.control := if s.link.state.isOpen then controlAdd .hello s.link.control else s.link.control
      eng := { s.eng with faults := [], demandQueue := [] }
      mon.degrade := 0
      aud := Audit.reset
      conv := Convergence.reset s.cfg.share
      map := s.map ||| policyMask s.plan .copy ||| policyMask s.plan .late
      mgmt := s.mgmt.raise s.cfg.eventMask .campaignStart } := by
  rw [State.startSteps, State.helloOnChange_eq]
  rfl

/-- Entry to PLAN. -/
theorem State.enterPlan_eq (s : State) : s.enterPlan =
    { s with
      camp := { s.camp with state := .plan, planWait := some 100000 }
      link.control := controlAdd (.beginCampaign s.camp.number s.mgmt.identity s.txq.nextSeq) (s.inState .plan).link.control
      txq := s.txq.join (.plan s.plan) } := by
  rw [State.enterPlan, State.enter_eq]
  rfl

/-! ### The relink decision (R76, R77) -/

theorem State.mayResume_iff (s : State) (p : PeerRecord) : s.mayResume p = true ↔
    p.identity = s.camp.peerIdentity ∧ s.camp.peerIdentity ≠ 0 ∧ p.role = .receiver ∧ p.number = s.camp.number
      ∧ (p.state = 1 ∨ p.state = 2) := by
  simp [State.mayResume, ReceiverState.code, and_assoc]

/-- The sender as a restart leaves the campaign that was: recorded, its queue emptied and its timers stopped. -/
def State.givenUp (s : State) : State :=
  { s with
    camp := { s.camp.stopTimers with breakFlag := false, exit := s.exitRecord .peerChanged }
    mgmt := s.mgmt.raise s.cfg.eventMask .campaignEnd
    txq := s.txq.emptied
    tables.pending := none }

/-- A peer a restart begins a new campaign for: a receiver whose memory holds the plan (R77). -/
def State.RestartFits (s : State) (p : PeerRecord) : Prop :=
  p.role = .receiver ∧ ∀ r ∈ s.tables.validRegions s.tables.active, r.2.base + r.2.count ≤ p.size

theorem State.restart_fits {s : State} {p : PeerRecord}
    (h : s.RestartFits p) :
    s.restart p = (s.givenUp.startSteps p).enterPlan := by
  have hfits : (p.role = .receiver && s.givenUp.planFits p.size) = true := by
    rw [Bool.and_eq_true, decide_eq_true_eq, State.planFits_iff]
    exact h
  exact if_pos hfits

theorem State.restart_idle {s : State} {p : PeerRecord}
    (h : ¬ s.RestartFits p) :
    s.restart p = { s.givenUp.settleEnd.inState .idle with map := 0 } := by
  have hfits : ¬ (p.role = .receiver && s.givenUp.planFits p.size) = true := by
    rw [Bool.and_eq_true, decide_eq_true_eq, State.planFits_iff]
    exact h
  have hidle : s.restart p = s.givenUp.settleEnd.enterIdle := if_neg hfits
  rw [hidle, State.enterIdle, State.enter_eq]

theorem State.restart_restartedFor (s : State) (p : PeerRecord) : s.restartedFor (s.restart p) p := by
  by_cases h : s.RestartFits p
  · rw [State.restart_fits h, State.enterPlan_eq, State.startSteps_eq]
    exact ⟨rfl, rfl, rfl, rfl, rfl, rfl, rfl, rfl, rfl, rfl,
      (if_pos h).mpr ⟨rfl, nextNumber_eq _, rfl, rfl, rfl, rfl, rfl⟩⟩
  · rw [State.restart_idle h]
    exact ⟨rfl, rfl, rfl, rfl, rfl, rfl, rfl, rfl, rfl, rfl, (if_neg h).mpr ⟨rfl, rfl, rfl, rfl, rfl⟩⟩

/-- A restart leaves the link in its state and the credits as they are. -/
theorem State.restart_keeps (s : State) (p : PeerRecord) :
    (s.restart p).link.state = s.link.state ∧ (s.restart p).txq.credits = s.txq.credits := by
  by_cases h : s.RestartFits p
  · rw [State.restart_fits h, State.enterPlan_eq, State.startSteps_eq]
    exact ⟨rfl, rfl⟩
  · rw [State.restart_idle h]
    exact ⟨rfl, rfl⟩

/-- The decision resumes or restarts, as the peer's HELLO says. -/
theorem State.decideRelink_relinkedFor (s : State) (p : PeerRecord) : s.relinkedFor (s.decideRelink p) p := by
  unfold State.relinkedFor State.decideRelink
  have hmay := State.mayResume_iff { s with camp.peerWait := none } p
  by_cases h : State.mayResume { s with camp.peerWait := none } p = true
  · rw [if_pos (hmay.mp h)]
    simp only [if_pos h]
    refine ⟨rfl, mem_controlAdd _ _, fun b hb => ?_⟩
    cases b <;> first | rfl | simp at hb
  · rw [if_neg (mt hmay.mpr h)]
    simp only [if_neg h]
    exact State.restart_restartedFor { s with camp.peerWait := none } p

theorem State.decideRelink_keeps (s : State) (p : PeerRecord) :
    (s.decideRelink p).link.state = s.link.state ∧ (s.decideRelink p).txq.credits = s.txq.credits := by
  unfold State.decideRelink
  simp only
  split
  · exact ⟨rfl, rfl⟩
  · exact State.restart_keeps { s with camp.peerWait := none } p

/-! ### Entry to UP (R119, R132, R142, R157) -/

/-- A stalled sender waits for its peer, whose HELLO is stored (R76). -/
def State.PeerAwaited (s : State) : Prop :=
  s.mgmt.role = .sender ∧ s.camp.state = .stalled ∧ s.camp.peerWait ≠ none ∧ s.link.peer ≠ none

/-- The part with the link just in UP, before any relink decision. -/
def State.raisedUp (s : State) : State :=
  { s with
    link := { s.link with
      state := .up
      blanking := none
      hello := some 100000
      creditTotal := 0
      creditTaken := 0
      sentTotal := 0
      control := controlAdd .hello s.link.control }
    txq.credits := 128
    rx.arrived := 0
    rx.lossCredited := 0 }

theorem State.enterUp_eq (s : State) : s.enterUp = s.raisedUp.tryRelink := rfl

theorem State.enterUp_plain {s : State} (h : ¬ s.PeerAwaited) : s.enterUp = s.raisedUp := by
  rw [State.enterUp_eq, State.tryRelink]
  split
  · next p hp =>
    have hp' : s.link.peer = some p := hp
    refine if_neg fun hall => h ?_
    simp only [Bool.and_eq_true, decide_eq_true_eq] at hall
    obtain ⟨⟨⟨hrole, hstate⟩, hwait⟩, -⟩ := hall
    exact ⟨hrole, hstate, Option.isSome_iff_ne_none.mp hwait, by simp [hp']⟩
  · rfl

theorem State.enterUp_relinks {s : State} {p : PeerRecord} (h : s.PeerAwaited) (hp : s.link.peer = some p) :
    s.enterUp = s.raisedUp.decideRelink p := by
  obtain ⟨hrole, hstate, hwait, -⟩ := h
  have hpeer : s.raisedUp.link.peer = some p := hp
  rw [State.enterUp_eq, State.tryRelink, hpeer]
  refine if_pos ?_
  simp only [Bool.and_eq_true, decide_eq_true_eq]
  exact ⟨⟨⟨hrole, hstate⟩, Option.isSome_iff_ne_none.mpr hwait⟩, rfl⟩

/-- Where the peer is awaited, the entry to UP takes the relink decision and leaves the link in UP with its credits. -/
theorem State.enterUp_relinkedFor {s : State} {p : PeerRecord} (h : s.PeerAwaited) (hp : s.link.peer = some p) :
    s.raisedUp.relinkedFor s.enterUp p ∧ s.enterUp.link.state = .up ∧ s.enterUp.txq.credits = 128 := by
  rw [State.enterUp_relinks h hp]
  exact ⟨s.raisedUp.decideRelink_relinkedFor p, s.raisedUp.decideRelink_keeps p⟩

/-! ### The end of training and of the blanking time (R130, R132) -/

theorem exec_trained (s : State) :
    exec .trained s = .next (if s.link.state = .training then s.enterBlanking else s) := rfl

theorem exec_blankingEnd (s : State) : exec .blankingEnd s
    = .next (if s.link.state = .blanking ∧ s.link.blanking ≠ none then s.enterUp else s) := by
  have htest : exec .blankingEnd s = .next (if s.link.state = .blanking && s.link.blanking.isSome then s.enterUp else s) := rfl
  simp only [htest, Bool.and_eq_true, decide_eq_true_eq, Option.isSome_iff_ne_none]

theorem Blanking.time_eq_zero_iff (b : Blanking) : b.time = 0 ↔ b = .ms0 := by cases b <;> simp [Blanking.time]

/-- The link in BLANKING, before the first HELLO is raised or sent. -/
def State.blanked (s : State) : State :=
  { s with link.state := .blanking, link.blanking := some s.cfg.blanking.time }

/-- The state of a blanking time of 0, in which the first HELLO has been sent. -/
def State.blankedOut (s : State) : State := s.blanked.send (.hello s.blanked.helloBody)

theorem State.enterBlanking_timed {s : State} (h : s.cfg.blanking ≠ .ms0) :
    s.enterBlanking = s.blanked.raiseControl .hello :=
  if_neg (mt (Blanking.time_eq_zero_iff _).mp h)

theorem State.enterBlanking_untimed {s : State} (h : s.cfg.blanking = .ms0) : s.enterBlanking = s.blankedOut.enterUp :=
  if_pos ((Blanking.time_eq_zero_iff _).mpr h)

/-- The first HELLO says the state of the part's role (R140). -/
theorem State.helloBody_state (s : State) :
    s.helloBody.state = if s.mgmt.role = .sender then s.camp.state.code else s.rx.state.code := by
  cases h : s.mgmt.role <;> simp [State.helloBody, State.stateCode, h]

/-! ### The end of the off-time (R134, R141) -/

theorem exec_offTimeEnd (s : State) : exec .offTimeEnd s
    = .next (if s.link.state = .cooldown ∧ s.link.offTime ≠ none then s.returnUp else s) := by
  have htest : exec .offTimeEnd s = .next (if s.link.state = .cooldown && s.link.offTime.isSome then s.returnUp else s) := rfl
  simp only [htest, Bool.and_eq_true, decide_eq_true_eq, Option.isSome_iff_ne_none]

/-- The link back in UP with the departure forgotten, before it is judged. -/
def State.backUp (s : State) : State :=
  { s with
    link := { s.link with
      state := .up
      offTime := none
      departure := false
      control := controlAdd .hello s.link.control } }

theorem State.returnUp_stays {s : State}
    (h : s.link.departure = false ∨ ∀ p, s.link.peer = some p → s.departs p = false) : s.returnUp = s.backUp := by
  unfold State.returnUp
  extract_lets back
  split
  · next p hp =>
    have hno : (s.link.departure && s.departs p) = false := by
      rcases h with h | h
      · rw [h, Bool.false_and]
      · rw [h p hp, Bool.and_false]
    exact if_neg (Bool.eq_false_iff.mp hno)
  · rfl

theorem State.returnUp_departs {s : State} {p : PeerRecord} (h : s.link.departure = true) (hp : s.link.peer = some p)
    (hdeparts : s.departs p = true) : s.returnUp = s.backUp.linkDown := by
  unfold State.returnUp
  extract_lets back
  split
  · next q hq =>
    obtain rfl : q = p := Option.some.inj (Eq.trans hq.symm hp)
    exact if_pos (Bool.and_eq_true_iff.mpr ⟨h, hdeparts⟩)
  · next hnone => exact absurd (Eq.trans hp.symm hnone) (by simp)

/-! ### Timers (R130, R139, R140) -/

theorem exec_quietTimeExpiry (s : State) : exec .quietTimeExpiry s
    = .next (if s.link.quiet = none then s else State.tryTrain { s with link.quiet := none }) := by
  refine congrArg Host.Outcome.next ?_
  cases s.link.quiet <;> rfl

theorem exec_keepaliveDue (s : State) : exec .keepaliveDue s
    = .next (if s.link.state = .up ∨ s.link.state = .cooldown then { s with link.keepaliveDue := true } else s) := by
  simp only [← LinkState.isOpen_iff]
  rfl

theorem exec_helloTimerExpiry (s : State) : exec .helloTimerExpiry s
    = .next (if (s.link.state = .up ∨ s.link.state = .cooldown) ∧ s.link.hello ≠ none then
        { s with link.control := controlAdd .hello s.link.control } else s) := by
  simp only [← LinkState.isOpen_iff, ← Option.isSome_iff_ne_none, ← Bool.and_eq_true]
  rfl

end Sys2Proof.Machine

/-! PROOFS. How the link comes up (R76, R77, R130 to R134, R139 to R141): O58. -/

namespace Sys2Proof.Proofs
open Sys2Proof.Machine

/-- Settles O58: each block event acts in its own link state, and what it leaves there is read off the entry to UP, which
either takes the relink decision or does not, and the return from COOLDOWN, which a departure still reported turns into an
entry to DOWN. -/
theorem linkComesUp : Obligations.LinkComesUp := by
  intro s isOpen trains waits up greeted
  have trained : s.link.state = .training → exec .trained s = .next s.enterBlanking := fun hst => by
    rw [exec_trained, if_pos hst]
  have blankingEnd : s.link.state = .blanking → s.link.blanking ≠ none → exec .blankingEnd s = .next s.enterUp :=
    fun hst hrun => by rw [exec_blankingEnd, if_pos ⟨hst, hrun⟩]
  have offTimeEnd : s.link.state = .cooldown → s.link.offTime ≠ none → exec .offTimeEnd s = .next s.returnUp :=
    fun hst hrun => by rw [exec_offTimeEnd, if_pos ⟨hst, hrun⟩]
  refine ⟨s.lanes_eq_pattern_iff, s.lanes_eq_frames_iff, ?_, ?_, fun hst => ?_, fun hst hms => ?_,
    fun hst hms hwaits => ?_, fun hst hms hwaits p hp => ?_, fun hno => ?_, fun hst hrun hwaits => ?_,
    fun hst hrun hwaits p hp => ?_, fun hno => ?_, fun hst hrun => ⟨fun hstays => ?_, ?_⟩,
    exec_keepaliveDue s, exec_helloTimerExpiry s, rfl⟩
  · rw [exec_quietTimeExpiry, State.tryTrain_eq]
  · exact congrArg Host.Outcome.next (State.tryTrain_eq _)
  · rw [exec_trained, if_neg hst]
  · rw [trained hst, State.enterBlanking_timed hms]
    rfl
  · rw [trained hst, State.enterBlanking_untimed hms, State.enterUp_plain (by exact hwaits)]
    exact ⟨_, State.helloBody_state _, rfl⟩
  · rw [trained hst, State.enterBlanking_untimed hms]
    exact ⟨_, _, rfl, State.enterUp_relinkedFor (s := s.blankedOut) hwaits hp⟩
  · rw [exec_blankingEnd, if_neg (by tauto)]
  · rw [blankingEnd hst hrun, State.enterUp_plain hwaits]
    rfl
  · rw [blankingEnd hst hrun]
    exact ⟨_, rfl, State.enterUp_relinkedFor hwaits hp⟩
  · rw [exec_offTimeEnd, if_neg (by tauto)]
  · rw [offTimeEnd hst hrun, State.returnUp_stays hstays]
    rfl
  · rintro hdeparture ⟨p, hp, hdeparts⟩ hsilence
    rw [offTimeEnd hst hrun, State.returnUp_departs hdeparture hp hdeparts, exec_silenceExpiry]
    exact congrArg Host.Outcome.next (if_pos (Option.isSome_iff_ne_none.mpr hsilence)).symm

end Sys2Proof.Proofs
end

section
/-! SUPPORT. Rules of the end of a pass (R61, R64, R84 to R90): when the sweep walk stays before the end of the bank,
what a pass end in MIRROR decides, and what a closing pass leaves in AUDIT and in INSYNC. -/

namespace Sys2Proof.Machine

/-! ### The sweep walk at a pass end (R61, R84, R97) -/

theorem State.getLsbD_inFlightMask (s : State) (u : Nat) :
    s.inFlightMask.getLsbD u = (decide (u < 131072) && s.isInFlight u) := by
  rw [State.inFlightMask, getLsbD_listMask, State.isInFlight]
  congr 1
  rw [Bool.eq_iff_iff]
  simp

/-- The eligible tiles are the ones a walk may offer (R95). -/
theorem State.getLsbD_eligible (s : State) (u : Nat) : s.eligible.getLsbD u = true ↔ s.offerable u := by
  rw [State.eligible, BitVec.getLsbD_and, BitVec.getLsbD_and, BitVec.getLsbD_not, BitVec.getLsbD_not,
    State.getLsbD_inFlightMask, State.getLsbD_quarantineMask, State.offerable, State.bit]
  by_cases hu : u < 131072
  · simp [hu, and_assoc]
  · simp [hu, BitVec.getLsbD_of_ge s.map u (by omega)]

/-- Where the sweep walk finds no tile in a region it stands in, its entry is bare. -/
theorem State.sweepBare_of_firstTile_none {s : State} {n : Nat} {r : Region}
    (hn : s.bankEntries[s.eng.sweep.entry]? = some n) (hr : s.tables.region n = some r)
    (hnone : (if r.policy = .copy then firstTile (s.eligible &&& r.mask) (r.base + s.eng.sweep.offset) else none) = none) :
    s.sweepBare s.eng.sweep.entry := by
  intro n' r' hn' hr' hcopy u hlow hhigh hoffer
  obtain rfl : n = n' := Option.some.inj (hn.symm.trans hn')
  obtain rfl : r = r' := Option.some.inj (hr.symm.trans hr')
  rw [if_pos hcopy, firstTile_eq_none_iff] at hnone
  rw [if_pos rfl] at hlow
  have heligible := (s.getLsbD_eligible u).mpr hoffer
  have hmask : r.mask.getLsbD u = true := by
    rw [Region.mask, getLsbD_runMask]
    exact decide_eq_true ⟨BitVec.lt_of_getLsbD heligible, by omega, hhigh⟩
  simpa [heligible, hmask] using hnone u hlow

/-- An entry that is bare once the sweep walk has taken its next entry was bare before (R61). -/
theorem State.sweepBare_of_nextEntry {s : State} {m : Nat} (h : s.nextEntry.sweepBare m) : s.sweepBare m := by
  intro n r hn hr hcopy u hlow
  have hbase : r.base ≤ u := Nat.le_of_add_right_le hlow
  exact h n r hn hr hcopy u (by split_ifs <;> exact hbase)

theorem State.endVisit_eq (s : State) (r : Region) : s.endVisit r = { s with mgmt := (s.endVisit r).mgmt } := by
  unfold State.endVisit
  split <;> rfl

/-- The sweep walk moves past no entry that holds a tile it may offer (R61, R97). -/
theorem State.moveSweep_entry_lt {fuel m : Nat} {s : State} (hm : s.eng.sweep.entry ≤ m) (hbare : ¬ s.sweepBare m) :
    (s.moveSweep fuel).eng.sweep.entry < s.bankEntries.length := by
  have hlength : m < s.bankEntries.length := by
    by_contra hge
    exact hbare fun n r hn => by simp [List.getElem?_eq_none (Nat.le_of_not_lt hge)] at hn
  induction fuel generalizing s with
  | zero => exact Nat.lt_of_le_of_lt hm hlength
  | succ fuel ih =>
    have passes {u : State} (hu : u = { s with mgmt := u.mgmt }) (hhere : s.sweepBare s.eng.sweep.entry) :
        (u.nextEntry.moveSweep fuel).eng.sweep.entry < s.bankEntries.length := by
      have hahead : s.eng.sweep.entry < m := Nat.lt_of_le_of_ne hm fun h => hbare (h ▸ hhere)
      rw [hu]
      exact ih (s := State.nextEntry { s with mgmt := u.mgmt }) hahead (mt State.sweepBare_of_nextEntry hbare) hlength
    unfold State.moveSweep
    split
    · exact Nat.lt_of_le_of_lt hm hlength
    · rename_i n hn
      split
      · rename_i hinvalid
        refine passes rfl fun n' r hn' hr => ?_
        obtain rfl : n = n' := Option.some.inj (hn.symm.trans hn')
        simp [hinvalid] at hr
      · rename_i r hr
        split
        · exact Nat.lt_of_le_of_lt hm hlength
        · rename_i hnone
          exact passes (s.endVisit_eq r) (State.sweepBare_of_firstTile_none hn hr hnone)

theorem State.moveSweep_done {fuel : Nat} {s : State} (h : s.bankEntries.length ≤ s.eng.sweep.entry) :
    s.moveSweep fuel = s := by
  cases fuel with
  | zero => rfl
  | succ fuel => rw [State.moveSweep, List.getElem?_eq_none h]

/-- In SWEEP and MIRROR the walks that move are the sweep walk, while R94 holds and no demand waits. -/
theorem State.moveWalks_passing {s : State} (h : s.camp.state = .sweep ∨ s.camp.state = .mirror) :
    s.moveWalks = if s.mayBegin = true ∧ s.eng.demandQueue = [] then s.moveSweep (s.bankEntries.length + 1) else s := by
  rcases h with h | h <;> simp [State.moveWalks, h]

theorem State.moveWalks_done {s : State} (hstate : s.camp.state = .sweep ∨ s.camp.state = .mirror)
    (h : s.bankEntries.length ≤ s.eng.sweep.entry) : s.moveWalks = s := by
  rw [State.moveWalks_passing hstate, State.moveSweep_done h, ite_self]

theorem State.passOver_iff (s : State) :
    s.passOver = true ↔ s.bankEntries.length ≤ s.eng.sweep.entry ∧ s.eng.inFlight = [] := by
  simp [State.passOver, State.sweepDone]

/-- A pass that goes on has not ended once the walks have moved (R61, R84, R97). -/
theorem State.moveWalks_passOver_of_passGoesOn {s : State} (hstate : s.camp.state = .sweep ∨ s.camp.state = .mirror)
    (h : s.passGoesOn) : s.moveWalks.passOver = false := by
  refine Bool.eq_false_of_not_eq_true fun hover => ?_
  obtain ⟨hdone, hempty⟩ := (State.passOver_iff _).mp hover
  rw [State.moveWalks_frame] at hdone hempty
  rcases h with hflying | ⟨hbefore, hstays⟩
  · exact hflying hempty
  · refine Nat.not_le_of_lt ?_ (show s.bankEntries.length ≤ s.moveWalks.eng.sweep.entry from hdone)
    rw [State.moveWalks_passing hstate]
    split_ifs with hmoves
    · rcases hstays with hmay | hdemand | ⟨m, hm, hbare⟩
      · simp [hmoves.1] at hmay
      · exact absurd hmoves.2 hdemand
      · exact State.moveSweep_entry_lt hm hbare
    · exact hbefore

/-! ### The pass end (R84, R89, R90) -/

theorem exec_passEnd_goesOn {s : State} (hstate : s.camp.state = .sweep ∨ s.camp.state = .mirror) (h : s.passGoesOn) :
    exec .passEnd s = .next s := by
  have hexec : exec .passEnd s = execPassEnd s := rfl
  simp [hexec, execPassEnd, State.moveWalks_passOver_of_passGoesOn hstate h]

/-- In MIRROR a pass whose walk is done and that has nothing in flight closes at D = 0 and else is sampled (R84, R90). -/
theorem exec_passEnd_mirror {s : State} (hrole : s.mgmt.role = .sender) (hstate : s.camp.state = .mirror)
    (hempty : s.eng.inFlight = []) (hdone : s.bankEntries.length ≤ s.eng.sweep.entry) :
    exec .passEnd s = .next (if s.countD = 0 then s.closePass else s.endMirror) := by
  have hexec : exec .passEnd s = execPassEnd s := rfl
  have hover : s.passOver = true := s.passOver_iff.mpr ⟨hdone, hempty⟩
  simp only [hexec, execPassEnd, State.moveWalks_done (.inr hstate) hdone, hover, hrole, hstate, decide_true,
    Bool.and_self, if_true]

/-- The items of R89 as conditions on the settings and the share. -/
theorem decideMirror_eq (c : Settings) (v : Convergence) (pass sm : Nat) :
    let limit := c.passLimit ≠ 0 ∧ c.passLimit ≤ pass
    let raises := ¬ limit ∧ 2 ≤ pass ∧ c.stallRatio ≤ sm ∧ v.share < c.ceiling ∧ 0 < c.step
    decideMirror c v pass sm =
      { outcome := if limit then .notConverged else if raises then .boost else .continues
        share := if raises then min (v.share + c.step) c.ceiling else v.share
        boost := v.boost || decide raises
        flat := v.flat } := by
  intro limit raises
  have hlimit : limitReached c pass = decide limit := rfl
  unfold decideMirror
  rw [hlimit]
  by_cases hl : limit
  · simp [raises, hl]
  · have hboost : (trendStalled c pass sm && canBoost c v.share) = decide raises := by
      simp [trendStalled, canBoost, raises, hl, Bool.and_assoc]
    rw [hboost]
    by_cases hr : raises <;> simp [hl, hr]

/-- After a sampling in MIRROR the pass limit ends the campaign, and any other item begins the next drain pass (R89). -/
theorem State.followMirror_eq (s : State) (limit raises : Prop) [Decidable limit] [Decidable raises] :
    s.followMirror (if limit then .notConverged else if raises then .boost else .continues)
      = if limit then s.ended .notConverged else s.beginPass .mirror := by
  split_ifs
  · exact s.close_eq .notConverged
  · rfl
  · rfl

/-! ### The closing of a pass (R64, R90, R168) -/

theorem State.mayClose_iff (s : State) : s.mayClose = true ↔
    s.mgmt.role = .sender ∧ s.camp.state = .mirror ∧ s.countD = 0 ∧ s.eng.inFlight = [] := by
  simp [State.mayClose, and_assoc]

theorem exec_passClose (s : State) : exec .passClose s = .next (if s.mayClose = true then s.closePass else s) := rfl

theorem State.isCopyEntry_iff (s : State) (n : Nat) :
    s.isCopyEntry n = true ↔ ∃ r, s.tables.region n = some r ∧ r.policy = .copy := by
  unfold State.isCopyEntry
  cases s.tables.region n <;> simp

/-- The walk of a new audit pass is done at once exactly where the active bank names no COPY region. -/
theorem State.beginAuditPass_walkDone (s : State) : s.beginAuditPass.aud.walkDone = true ↔
    ∀ n ∈ s.bankEntries.eraseDups, s.isCopyEntry n = false := by
  simp [State.beginAuditPass, State.copyRegionFrom]

theorem Tables.forall_mem_validRegions (tb : Tables) (b : Bank) (p : Nat × Region → Prop) :
    (∀ q ∈ tb.validRegions b, p q) ↔
      ∀ n ∈ (tb.entries b).eraseDups, ∀ r, tb.region n = some r → p (n, r) := by
  simp only [Tables.validRegions, List.mem_filterMap, Option.map_eq_some_iff]
  constructor
  · exact fun h n hn r hr => h (n, r) ⟨n, hn, r, hr, rfl⟩
  · rintro h q ⟨n, hn, r, hr, rfl⟩
    exact h n hn r hr

theorem State.beginAuditPass_walkDone_iff_plan (s : State) : s.beginAuditPass.aud.walkDone = true ↔
    ∀ q ∈ s.tables.validRegions s.tables.active, q.2.policy ≠ .copy := by
  rw [s.beginAuditPass_walkDone, Tables.forall_mem_validRegions]
  refine forall₂_congr fun n _ => ?_
  rw [← Bool.not_eq_true, s.isCopyEntry_iff]
  simp

theorem State.beginAuditPass_begun (s : State) : s.auditWalkBegun s.beginAuditPass := by
  have hplaces : s.beginAuditPass.aud.walk.entry = s.bankEntries.eraseDups.findIdx s.isCopyEntry := rfl
  simp only [State.auditWalkBegun, ← s.isCopyEntry_iff]
  refine ⟨rfl, rfl, ?_, fun m n hm hn => ?_, fun hwalks => ?_⟩
  · simpa using s.beginAuditPass_walkDone
  · rw [hplaces] at hm
    obtain ⟨hlt, rfl⟩ := List.getElem?_eq_some_iff.mp hn
    simpa using List.not_of_lt_findIdx hm
  · have hsome : ∃ n ∈ s.bankEntries.eraseDups, s.isCopyEntry n = true := by
      by_contra hnone
      rw [s.beginAuditPass_walkDone.mpr (by simpa using hnone)] at hwalks
      exact Bool.noConfusion hwalks
    have hlt := List.findIdx_lt_length.mpr hsome
    exact ⟨_, List.getElem?_eq_getElem hlt, List.findIdx_getElem⟩

theorem State.enterAudit_eq (s : State) :
    s.enterAudit = { s.inState .audit with eng.scanPointer := 0, aud := s.beginAuditPass.aud } := by
  rw [State.enterAudit, State.enter_eq]
  rfl

theorem State.enterInsync_eq (s : State) : s.enterInsync =
    { s.inState .insync with
      camp := { s.camp with state := .insync, synced := true }
      txq := s.txq.join (.syncMark true)
      mgmt := s.mgmt.raise s.cfg.eventMask .insyncEnter } := by
  rw [State.enterInsync, State.enter_eq]
  rfl

/-- The pass closes into AUDIT where audit is enabled and not yet passed (R90, R98, R168). -/
theorem State.closePass_audit {s : State} (hon : s.cfg.audit = true) (hpassed : s.camp.auditPassed = false) :
    s.closePass =
      { s.inState .audit with
        conv := s.conv.closed s.camp.passNumber
        eng.scanPointer := 0
        aud := s.beginAuditPass.aud
        mgmt := s.mgmt.raise s.cfg.eventMask .passEnd } := by
  have hgoes : (s.cfg.audit && !s.camp.auditPassed) = true := by simp [hon, hpassed]
  exact (if_pos hgoes).trans (State.enterAudit_eq _)

/-- The pass closes into INSYNC where audit is off or passed (R65, R90). -/
theorem State.closePass_insync {s : State} (h : s.cfg.audit = false ∨ s.camp.auditPassed = true) :
    s.closePass =
      { s.inState .insync with
        camp := { s.camp with state := .insync, synced := true }
        conv := s.conv.closed s.camp.passNumber
        txq := s.txq.join (.syncMark true)
        mgmt := (s.mgmt.raise s.cfg.eventMask .passEnd).raise s.cfg.eventMask .insyncEnter } := by
  have hskips : ¬ (s.cfg.audit && !s.camp.auditPassed) = true := by rcases h with h | h <;> simp [h]
  exact (if_neg hskips).trans (State.enterInsync_eq _)

/-- Either an audit is due, or audit is off or passed: the two ways a pass closes (R90). -/
theorem State.auditDue_or_not (s : State) :
    s.cfg.audit = true ∧ s.camp.auditPassed = false ∨ (s.cfg.audit = false ∨ s.camp.auditPassed = true) := by
  cases s.cfg.audit <;> cases s.camp.auditPassed <;> simp

/-- Either way the statistics are the closed ones (R90). -/
theorem State.closePass_conv (s : State) : s.closePass.conv = s.conv.closed s.camp.passNumber := by
  rcases s.auditDue_or_not with ⟨hon, hpassed⟩ | h
  · rw [State.closePass_audit hon hpassed]
  · rw [State.closePass_insync h]

theorem State.closePass_frame (s : State) :
    s.changesOnly s.closePass [.conv, .camp, .eng, .aud, .txq, .link, .mgmt] := by
  intro b hb
  rcases s.auditDue_or_not with ⟨hon, hpassed⟩ | h
  · rw [State.closePass_audit hon hpassed]
    cases b <;> first | rfl | simp at hb
  · rw [State.closePass_insync h]
    cases b <;> first | rfl | simp at hb

end Sys2Proof.Machine

/-! PROOFS. The convergence of a campaign (chapter 5): the pass end in MIRROR (R89) and the closing of a pass (R90). -/

namespace Sys2Proof.Proofs
open Sys2Proof.Machine

/-- Settles O43: a pass that goes on leaves the walk before the end of the bank or a tile in flight; one that has ended is
sampled, and R89's decision either ends the campaign or begins the next drain pass. -/
theorem passEndInMirror : Obligations.PassEndInMirror := by
  intro s hrole hstate
  refine ⟨exec_passEnd_goesOn (.inr hstate), fun hempty hdirty hdone => ⟨s.endMirror, ?_, ?_⟩⟩
  · rw [exec_passEnd_mirror hrole hstate hempty hdone, if_neg hdirty.ne']
  · intro rho sm limit raises share outcome sampled
    have hend : s.endMirror = if limit then sampled.ended .notConverged else sampled.beginPass .mirror := by
      have hdecision : decideMirror s.cfg s.conv s.camp.passNumber
          (smooth s.conv.s s.conv.sMark (passRatio s.conv.k s.conv.w)) =
            ⟨outcome, share, s.conv.boost || decide raises, s.conv.flat⟩ :=
        decideMirror_eq s.cfg s.conv s.camp.passNumber sm
      rw [← State.followMirror_eq sampled limit raises, State.endMirror, hdecision]
      rfl
    rw [hend]
    refine ⟨fun hl => if_pos hl, fun hl => ?_⟩
    rw [if_neg hl]
    exact sampled.beginPass_begun .mirror hrole (by decide) (by decide)

/-- Settles O44: the witness is the closed pass, which PASS_END reaches too once the walk is done; the two states it can enter
are read off `State.closePass_audit` and `State.closePass_insync`. -/
theorem passCloses : Obligations.PassCloses := by
  intro s closes
  refine ⟨fun hopen => ?_, fun hcloses => ⟨s.closePass, ?_, fun hdone => ?_, s.closePass_conv, fun hon hpassed => ?_,
    fun h => ?_, s.closePass_frame⟩⟩
  · rw [exec_passClose, if_neg (mt s.mayClose_iff.mp hopen)]
  · rw [exec_passClose, if_pos (s.mayClose_iff.mpr hcloses)]
  · obtain ⟨hrole, hstate, hclean, hempty⟩ := hcloses
    rw [exec_passEnd_mirror hrole hstate hempty hdone, if_pos hclean]
  · rw [State.closePass_audit hon hpassed]
    exact ⟨rfl, rfl, rfl, s.beginAuditPass_begun, rfl, s.beginAuditPass_walkDone_iff_plan, rfl⟩
  · rw [State.closePass_insync h]
    exact ⟨rfl, rfl, rfl, rfl, rfl⟩

end Sys2Proof.Proofs
end

section
/-! SUPPORT. Rules of the transmitter (R115, R116, R124, R137 to R139): how the control list takes and gives up a frame, which
frame is the next one of each role, and when a frame of the queue is ready. -/

namespace Sys2Proof.Machine

/-! ### The control list (R137) -/

theorem Control.sameKind_comm (c d : Control) : c.sameKind d = d.sameKind c := by
  cases c <;> cases d <;> rfl

theorem Control.sameKind_iff (c d : Control) : c.sameKind d = true ↔ c = .hello ∧ d = .hello
    ∨ (∃ n i f m j g, c = .beginCampaign n i f ∧ d = .beginCampaign m j g)
    ∨ (∃ n f m g, c = .resume n f ∧ d = .resume m g) ∨ ∃ r k q l, c = .abandon r k ∧ d = .abandon q l := by
  cases c <;> cases d <;> simp [Control.sameKind]

theorem controlAdd_new {c : Control} {l : List Control} (h : ∀ d ∈ l, c.sameKind d = false) :
    controlAdd c l = l ++ [c] := by
  have hnone : l.any c.sameKind = false := List.any_eq_false.mpr fun d hd => by simp [h d hd]
  simp [controlAdd, hnone]

/-- Replacing the frames of one kind leaves a list that holds none of the kind as it is. -/
theorem map_replace_of_other {c new : Control} {l : List Control} (h : ∀ d ∈ l, c.sameKind d = false) :
    (l.map fun d => if c.sameKind d then new else d) = l :=
  (List.map_congr_left fun d hd => by simp [h d hd]).trans (List.map_id l)

theorem controlAdd_replace {c d : Control} {before after : List Control} (hd : c.sameKind d = true)
    (hother : ∀ e ∈ before ++ after, c.sameKind e = false) :
    controlAdd c (before ++ d :: after) = before ++ c :: after := by
  have hbefore : ∀ e ∈ before, c.sameKind e = false := fun e he => hother e (List.mem_append_left _ he)
  have hafter : ∀ e ∈ after, c.sameKind e = false := fun e he => hother e (List.mem_append_right _ he)
  have hany : (before ++ d :: after).any c.sameKind = true := List.any_eq_true.mpr ⟨d, by simp, hd⟩
  rw [controlAdd, if_pos hany, List.map_append, List.map_cons, map_replace_of_other hbefore, map_replace_of_other hafter,
    if_pos hd]

theorem filter_of_other {c : Control} {l : List Control} (h : ∀ d ∈ l, c.sameKind d = false) :
    (l.filter fun d => !c.sameKind d) = l :=
  List.filter_eq_self.mpr fun d hd => by simp [h d hd]

/-- A frame that leaves for good leaves the frames of other kinds behind it. -/
theorem filter_cons_sameKind {c : Control} {l : List Control} (h : ∀ d ∈ l, c.sameKind d = false) :
    ((c :: l).filter fun d => !c.sameKind d) = l := by
  rw [List.filter_cons_of_neg (by simp [Control.sameKind_refl]), filter_of_other h]

/-- A frame other than an ABANDON with copies to come leaves the list. -/
theorem controlSent_last {c : Control} {l : List Control} (hlast : ∀ reason k, c ≠ .abandon reason (k + 2))
    (h : ∀ d ∈ l, c.sameKind d = false) : controlSent c (c :: l) = l := by
  unfold controlSent
  split
  · exact absurd rfl (hlast _ _)
  · exact filter_cons_sameKind h

/-- An ABANDON leaves once for each of its copies (R137, R146). -/
theorem controlSent_abandon {reason : ExitReason} {k : Nat} {l : List Control}
    (h : ∀ d ∈ l, (Control.abandon reason k).sameKind d = false) :
    controlSent (.abandon reason (k + 1)) (.abandon reason (k + 1) :: l)
      = if k = 0 then l else .abandon reason k :: l := by
  have h : ∀ d ∈ l, (Control.abandon reason (k + 1)).sameKind d = false := fun d hd => by
    rw [← h d hd]
    cases d <;> rfl
  cases k with
  | zero => exact controlSent_last (by simp) h
  | succ k => exact congrArg (Control.abandon reason (k + 1) :: ·) (map_replace_of_other h)

/-! ### The first frame of the control list -/

theorem exec_transmit_control {s : State} {c : Control} {rest : List Control} (hc : s.link.control = c :: rest)
    (hsend : c.sendable s.link.state = true) : exec .transmit s = .next (s.sendControl c) := by
  have hfind : s.link.control.find? (Control.sendable s.link.state) = some c := by
    rw [hc]
    exact List.find?_cons_of_pos hsend
  have hexec : exec .transmit s = .next s.transmitNext := rfl
  rw [hexec, State.transmitNext]
  cases hr : s.mgmt.role <;> simp only [State.transmitSender, State.transmitReceiver, hfind]

theorem State.helloBody_eq (s : State) : s.helloBody =
    { role := s.mgmt.role.code
      identity := s.mgmt.identity
      size := BitVec.ofNat 32 s.mgmt.size
      number := if s.mgmt.role = .sender then s.camp.number else s.rx.held
      state := if s.mgmt.role = .sender then s.camp.state.code else s.rx.state.code
      total := if s.mgmt.role = .sender then 0 else s.link.creditTotal } := by
  cases hr : s.mgmt.role <;> simp [State.helloBody, State.stateCode, State.campaignNumber, hr]

/-! ### The sender's next frame, with no frame in the control list (R116, R124, R139) -/

section
variable {s : State} (hcontrol : s.link.control = []) (hrole : s.mgmt.role = .sender)
include hcontrol hrole

theorem exec_transmit_sender : exec .transmit s = .next (
    match (if s.link.state = .up then s.txq.resync else none) with
    | some number => State.send { s with txq.resync := none } (.resync number s.link.sentTotal)
    | none => s.transmitOrdered.getD (if s.link.keepaliveDue && s.link.state.isOpen then s.send (.keepalive 0) else s)) := by
  have hexec : exec .transmit s = .next s.transmitNext := rfl
  rw [hexec, State.transmitNext, hrole]
  simp only [State.transmitSender, hcontrol, List.find?_nil]
  cases (if s.link.state = .up then s.txq.resync else none) with
  | some number => rfl
  | none => cases s.transmitOrdered <;> rfl

theorem exec_transmit_resync {number : Seq} (hup : s.link.state = .up) (hresync : s.txq.resync = some number) :
    exec .transmit s = .next (State.send { s with txq.resync := none } (.resync number s.link.sentTotal)) := by
  rw [exec_transmit_sender hcontrol hrole, if_pos hup, hresync]

theorem exec_transmit_ordered {t : State} (hresync : s.txq.resync = none) (hsend : s.transmitOrdered = some t) :
    exec .transmit s = .next t := by
  rw [exec_transmit_sender hcontrol hrole, hresync, ite_self, hsend]
  rfl

theorem exec_transmit_senderIdle (hresync : s.link.state = .up → s.txq.resync = none)
    (hnone : s.transmitOrdered = none) : exec .transmit s = .next (
      if s.link.keepaliveDue && s.link.state.isOpen then s.send (.keepalive 0) else s) := by
  have hno : (if s.link.state = .up then s.txq.resync else none) = none := by
    split_ifs with hup
    · exact hresync hup
    · rfl
  rw [exec_transmit_sender hcontrol hrole, hno, hnone]
  rfl

end

/-! ### The next ordered frame (R113, R115, R116, R124) -/

/-- The conditions of R116 for an ordered frame: the link UP, a credit, and no RESYNC that waits. -/
def State.MaySendOrdered (s : State) : Prop := s.link.state = .up ∧ 0 < s.txq.credits ∧ s.txq.resync = none

theorem State.transmitOrdered_eq_none {s : State} (h : ¬ s.MaySendOrdered) : s.transmitOrdered = none := by
  refine if_neg fun hsend => h ?_
  simp only [Bool.and_eq_true, decide_eq_true_eq, Option.isNone_iff_eq_none] at hsend
  obtain ⟨⟨hup, hcredit⟩, hresync⟩ := hsend
  exact ⟨hup, hcredit, hresync⟩

theorem State.transmitOrdered_may {s : State} (h : s.MaySendOrdered) : s.transmitOrdered =
    match s.txq.resyncMark with
    | some sync => some (State.sendOrdered { s with txq.resyncMark := none } (if sync then .syncMark else .unsyncMark) none 0)
    | none => s.txq.head.bind fun e => (s.readyFrame e.body e.sent).map fun b => s.sendEntry e b := by
  obtain ⟨hup, hcredit, hresync⟩ := h
  have hsend : (s.link.state = .up && decide (1 ≤ s.txq.credits) && s.txq.resync.isNone) = true := by
    simp [hup, hresync, Nat.succ_le_of_lt hcredit]
  rw [State.transmitOrdered, if_pos hsend]
  cases s.txq.resyncMark with
  | some sync => rfl
  | none => cases s.txq.head <;> rfl

theorem TxEntry.allSent_iff (e : TxEntry) : e.allSent = true ↔ e.body.frames ≤ e.sent := by simp [TxEntry.allSent]

/-- The head of the unsent part is the first entry with a frame not sent. -/
theorem TxQueue.head_of_split {q : TxQueue} {before after : List TxEntry} {e : TxEntry}
    (hq : q.queue = before ++ e :: after) (hbefore : ∀ p ∈ before, p.body.frames ≤ p.sent)
    (he : e.sent < e.body.frames) : q.head = some e := by
  rw [TxQueue.head, hq, List.find?_append, List.find?_eq_none.mpr fun p hp => by
    simp [(TxEntry.allSent_iff p).mpr (hbefore p hp)], Option.none_or]
  exact List.find?_cons_of_pos (by simpa [TxEntry.allSent] using he)

theorem TxQueue.head_of_allSent {q : TxQueue} (h : ∀ p ∈ q.queue, p.body.frames ≤ p.sent) : q.head = none :=
  List.find?_eq_none.mpr fun p hp => by simp [(TxEntry.allSent_iff p).mpr (h p hp)]

/-- With no mark to send, the next frame of the queue goes out if it is ready. -/
theorem State.transmitOrdered_of_split {s : State} {before after : List TxEntry} {e : TxEntry} (hmay : s.MaySendOrdered)
    (hmark : s.txq.resyncMark = none) (hq : s.txq.queue = before ++ e :: after)
    (hbefore : ∀ p ∈ before, p.body.frames ≤ p.sent) (he : e.sent < e.body.frames) :
    s.transmitOrdered = (s.readyFrame e.body e.sent).map fun b => s.sendEntry e b := by
  rw [State.transmitOrdered_may hmay, hmark, TxQueue.head_of_split hq hbefore he]
  rfl

theorem State.transmitOrdered_of_allSent {s : State} (hmark : s.txq.resyncMark = none)
    (h : ∀ p ∈ s.txq.queue, p.body.frames ≤ p.sent) : s.transmitOrdered = none := by
  by_cases hmay : s.MaySendOrdered
  · rw [State.transmitOrdered_may hmay, hmark, TxQueue.head_of_allSent h]
    rfl
  · exact State.transmitOrdered_eq_none hmay

/-! ### The numbers an in-flight entry notes (R102, R170) -/

/-- A frame of any entry but a TILE or DIGEST one leaves no number. -/
theorem noteSeq_of_mark {b : TxBody} (h : ∀ n v, b ≠ .tile n ∧ b ≠ .digest n v) (k : Nat) (seq : Seq) :
    noteSeq b k seq = id := by
  funext f
  cases b with
  | tile n => exact absurd rfl (h n 0).1
  | digest n v => exact absurd rfl (h n v).2
  | tileCut | mirror | syncMark | quarantine | plan | handover => rfl

theorem noteSeq_tile {f : InFlight} (hkind : f.kind = .copy) (k : Nat) (seq : Seq) :
    noteSeq (.tile f.tile) k seq f =
      { f with
        firstSeq := if k = 0 then some seq else f.firstSeq
        lastSeq := if k = 63 then some seq else f.lastSeq } := by
  simp [noteSeq, hkind, Config.tileChunks]

theorem noteSeq_digest {f : InFlight} (hkind : f.kind = .audit) (hlast : f.lastSeq = none) (v : BitVec 32) (k : Nat)
    (seq : Seq) : noteSeq (.digest f.tile v) k seq f = { f with firstSeq := some seq, lastSeq := some seq } := by
  simp [noteSeq, hkind, hlast]

theorem State.sendEntry_frame (s : State) (e : TxEntry) (body : OrderedBody) :
    s.changesOnly (s.sendEntry e body) [.txq, .link, .eng, .camp] := by
  intro b hb
  cases b with
  | txq | link | eng | camp => simp at hb
  | _ => rfl

/-- The HANDOVER frame that leaves is noted (R72). -/
theorem State.sendEntry_camp (s : State) (e : TxEntry) (body : OrderedBody) : (s.sendEntry e body).camp =
    { s.camp with handoverSent := s.camp.handoverSent || e.body == .handover } := by
  have hsame : (s.sendEntry e body).camp = { s.camp with handoverSent := s.camp.handoverSent || (match e.body with
      | .handover => true
      | _ => false) } := rfl
  rw [hsame]
  cases e.body <;> rfl

theorem State.sendEntry_inFlight (s : State) (e : TxEntry) (body : OrderedBody) :
    (s.sendEntry e body).eng.inFlight = s.eng.inFlight.map (noteSeq e.body e.sent s.txq.nextSeq) := rfl

/-- An in-flight entry whose note of the frame is g stands as g after it. -/
theorem State.mem_sendEntry_inFlight {s : State} {e : TxEntry} {f g : InFlight} (body : OrderedBody)
    (hf : f ∈ s.eng.inFlight) (hnote : noteSeq e.body e.sent s.txq.nextSeq f = g) :
    g ∈ (s.sendEntry e body).eng.inFlight :=
  List.mem_map.mpr ⟨f, hf, hnote⟩

theorem State.sendEntry_eng_of_mark {s : State} {e : TxEntry} (body : OrderedBody)
    (h : ∀ n v, e.body ≠ .tile n ∧ e.body ≠ .digest n v) : (s.sendEntry e body).eng = s.eng := by
  have hsame : (s.sendEntry e body).eng
      = { s.eng with inFlight := s.eng.inFlight.map (noteSeq e.body e.sent s.txq.nextSeq) } := rfl
  rw [hsame, noteSeq_of_mark h, List.map_id]

/-! ### The receiver's next frame (R138) -/

section
variable {s : State} (hcontrol : s.link.control = []) (hrole : s.mgmt.role = .receiver)
include hcontrol hrole

theorem exec_transmit_report {r : Report} {rest : List Report} (hopen : s.link.state.isOpen = true)
    (hreports : s.link.reports = r :: rest) (happlying : s.rx.applying = none) : exec .transmit s = .next (State.send
      { s with link.reports := rest, link.creditTotal := creditLeaving s.link.creditTotal r } (.report r)) := by
  have hexec : exec .transmit s = .next s.transmitNext := rfl
  have hstays : ∀ u : State, u.rx.applying = none → u.tryFinish = u := fun u hu =>
    State.tryFinish_unended fun a ha => by simp [hu] at ha
  rw [hexec, State.transmitNext, hrole]
  simp only [State.transmitReceiver, hcontrol, List.find?_nil, hopen, if_true, hreports]
  exact congrArg Host.Outcome.next (hstays _ happlying)

theorem exec_transmit_receiverIdle (hreports : s.link.state.isOpen = true → s.link.reports = []) :
    exec .transmit s = .next (
      if s.link.keepaliveDue && s.link.state.isOpen then s.send (.keepalive s.link.creditTotal) else s) := by
  have hexec : exec .transmit s = .next s.transmitNext := rfl
  have hno : (if s.link.state.isOpen then s.link.reports else []) = [] := by
    split_ifs with hopen
    · exact hreports hopen
    · rfl
  rw [hexec, State.transmitNext, hrole]
  simp only [State.transmitReceiver, hcontrol, List.find?_nil, hno]

end

theorem Control.sendable_closed (c : Control) {l : LinkState} (h : l = .down ∨ l = .training) :
    c.sendable l = false := by
  rcases h with rfl | rfl <;> cases c <;> rfl

/-- On a link that is neither open nor in BLANKING nothing is sent (R130, R137). -/
theorem exec_transmit_closed {s : State} (h : s.link.state = .down ∨ s.link.state = .training) :
    exec .transmit s = .next s := by
  have hclosed : s.link.state.isOpen = false := by rcases h with h | h <;> rw [h] <;> rfl
  have hup : s.link.state ≠ .up := by rcases h with h | h <;> rw [h] <;> decide
  have hunsendable : s.link.control.find? (Control.sendable s.link.state) = none :=
    List.find?_eq_none.mpr fun c _ => by simp [c.sendable_closed h]
  have hordered : s.transmitOrdered = none := State.transmitOrdered_eq_none fun hmay => hup hmay.1
  have hexec : exec .transmit s = .next s.transmitNext := rfl
  rw [hexec, State.transmitNext]
  cases hr : s.mgmt.role with
  | sender => simp only [State.transmitSender, hunsendable, if_neg hup, hordered, hclosed, Bool.and_false,
      Bool.false_eq_true, if_false]
  | receiver => simp only [State.transmitReceiver, hunsendable, hclosed, Bool.and_false, Bool.false_eq_true, if_false]

/-! ### What makes a chunk ready (R102) -/

theorem bufferLine_isSome_iff (b : List (Nat × Line)) (n : Nat) : (bufferLine b n).isSome = true ↔ ∃ p ∈ b, p.1 = n := by
  simp [bufferLine]

theorem chunkData_isSome_iff (e : InFlight) (c : Nat) :
    (chunkData e c).isSome = true ↔ ∀ j < 8, ∃ p ∈ e.buffer, p.1 = c * 8 + j := by
  have hall : ((List.range 8).filterMap fun j => bufferLine e.buffer (c * 8 + j)).length = 8 ↔
      ∀ j < 8, (bufferLine e.buffer (c * 8 + j)).isSome = true := by
    have hlength := List.filterMap_length_eq_length (l := List.range 8) (f := fun j => bufferLine e.buffer (c * 8 + j))
    rw [List.length_range] at hlength
    rw [hlength]
    simp only [List.mem_range]
  simp only [← bufferLine_isSome_iff, ← hall, chunkData]
  split_ifs with h <;> simp [h]

theorem State.readyFrame_tile_isSome_iff (s : State) (tile n : Nat) :
    (s.readyFrame (.tile tile) n).isSome = true ↔ ∃ e,
      (s.eng.inFlight.find? fun e => e.tile == tile && e.kind == .copy) = some e
        ∧ ∀ j < 8, ∃ p ∈ e.buffer, p.1 = n * 8 + j := by
  simp only [State.readyFrame]
  split
  · next e he => simp only [Option.isSome_map, chunkData_isSome_iff, he, Option.some.injEq, exists_eq_left']
  · next hnone => simp [hnone]

end Sys2Proof.Machine

/-! PROOFS. The transmitter (R102, R115, R116, R124, R137 to R140, R142, R157): O57. -/

namespace Sys2Proof.Proofs
open Sys2Proof.Machine

/-- Settles O57: the clauses go down the transmitter's order. A control frame leaves by `exec_transmit_control`; below it the
sender's frame is read off `exec_transmit_sender` and R116's conditions, and the receiver's off the report list. -/
theorem transmit : Obligations.Transmit := by
  refine ⟨fun c l => ⟨controlAdd_new, ?_⟩, Control.sameKind_iff, fun s => ?_⟩
  · rintro before d after rfl hd hother
    exact controlAdd_replace hd hother
  intro isOpen out record
  have hopen : isOpen → s.link.state.isOpen = true := (LinkState.isOpen_iff _).mpr
  have symm : ∀ {c : Control} {rest : List Control}, (∀ d ∈ rest, d.sameKind c = false) →
      ∀ d ∈ rest, c.sameKind d = false := fun h d hd => (Control.sameKind_comm _ d).trans (h d hd)
  refine ⟨fun rest hc hother hst => ?_, fun ho => ⟨fun number identity first rest hc hother => ?_,
    fun number next rest hc hother => ?_, fun reason k rest hc hother => ?_⟩,
    fun hc hr => ⟨fun number hup hresync => exec_transmit_resync hc hr hup hresync,
      fun hup hresync hcredit => ⟨fun sync hmark => ?_, fun before e after body hmark hq hbefore he hready => ?_⟩,
      fun hidle => ?_⟩,
    fun hc hr ho => ⟨fun r rest hreports happlying => ?_, fun hreports => ?_⟩, exec_transmit_closed,
    fun _ _ _ _ _ _ => rfl, s.readyFrame_tile_isSome_iff⟩
  · have hsend : Control.hello.sendable s.link.state = true := by
      rcases hst with hst | hst
      · simp [Control.sendable, hopen hst]
      · simp [Control.sendable, hst]
    rw [exec_transmit_control hc hsend, State.sendControl, hc, State.controlFrame, State.helloBody_eq,
      controlSent_last (by simp) (symm hother)]
    rfl
  · rw [exec_transmit_control hc (hopen ho), State.sendControl, hc, controlSent_last (by simp) (symm hother)]
    rfl
  · rw [exec_transmit_control hc (hopen ho), State.sendControl, hc, controlSent_last (by simp) (symm hother)]
    rfl
  · rw [exec_transmit_control hc (hopen ho), State.sendControl, hc, controlSent_abandon (symm hother)]
    rfl
  · refine exec_transmit_ordered hc hr hresync ?_
    rw [State.transmitOrdered_may ⟨hup, hcredit, hresync⟩, hmark]
    rfl
  · have hsend := State.transmitOrdered_of_split ⟨hup, hcredit, hresync⟩ hmark hq hbefore he
    rw [hready] at hsend
    exact ⟨s.sendEntry e body, exec_transmit_ordered hc hr hresync hsend, rfl, rfl, State.sendEntry_eng_of_mark body,
      fun f hf hbody hkind => State.mem_sendEntry_inFlight body hf (by rw [hbody, noteSeq_tile hkind]),
      fun f hf v hbody hkind hlast => State.mem_sendEntry_inFlight body hf (by rw [hbody, noteSeq_digest hkind hlast]),
      s.sendEntry_camp e body, s.sendEntry_frame e body⟩
  · have hnone : s.transmitOrdered = none := by
      rcases hidle with hcool | ⟨-, -, hcredit | ⟨hmark, hall | ⟨before, e, after, hq, hbefore, he, hready⟩⟩⟩
      · exact State.transmitOrdered_eq_none fun hmay => by simp [hmay.1] at hcool
      · exact State.transmitOrdered_eq_none fun hmay => by simp [State.MaySendOrdered, hcredit] at hmay
      · exact State.transmitOrdered_of_allSent hmark hall
      · by_cases hmay : s.MaySendOrdered
        · rw [State.transmitOrdered_of_split hmay hmark hq hbefore he, hready]
          rfl
        · exact State.transmitOrdered_eq_none hmay
    have hstate : s.link.state.isOpen = true := by
      rcases hidle with hcool | ⟨hup, -⟩
      · rw [hcool]; rfl
      · rw [hup]; rfl
    rw [exec_transmit_senderIdle hc hr (fun hup => ?_) hnone, hstate, Bool.and_true]
    · rfl
    · rcases hidle with hcool | ⟨-, hresync, -⟩
      · simp [hup] at hcool
      · exact hresync
  · rw [exec_transmit_report hc hr (hopen ho) hreports happlying]
    cases r <;> rfl
  · rw [exec_transmit_receiverIdle hc hr (fun _ => hreports), hopen ho, Bool.and_true]
    rfl

end Sys2Proof.Proofs
end

section
/-! SUPPORT. Rules of a set request and of a strike (R30, R32, R65, R108, R109): when a set request takes INSYNC to MIRROR, what it
leaves alone, and what a strike does to the fault list. -/

namespace Sys2Proof.Machine

/-! ### A set request in INSYNC (R65) -/

/-- A set request of the tile takes INSYNC to MIRROR: it makes a clean scope COPY tile dirty that is not quarantined. -/
def State.LeavesFor (s : State) (tile : Nat) : Prop :=
  s.camp.state = .insync ∧ s.scopeIs .copy tile = true ∧ s.bit tile = false ∧ s.quarantined tile = false

theorem State.runs_of_scopeIs {s : State} {p : Policy} {tile : Nat} (h : s.scopeIs p tile = true) : s.runs = true := by
  by_contra hruns
  simp [State.scopeIs, State.scope, hruns] at h

/-- Only a sender has scope tiles. -/
theorem State.sender_of_scopeIs {s : State} {p : Policy} {tile : Nat} (h : s.scopeIs p tile = true) :
    s.mgmt.role = .sender :=
  (s.runs_iff.mp (State.runs_of_scopeIs h)).1

theorem State.setDirty_eq_dirtied (s : State) (tile : Nat) : s.setDirty tile = s.dirtied tile := s.setDirty_eq tile

theorem State.markDirty_stays {s : State} {tile : Nat} (h : ¬ s.LeavesFor tile) : s.markDirty tile = s.dirtied tile := by
  rw [State.markDirty, State.setDirty_eq_dirtied, if_neg]
  intro hall
  simp only [Bool.and_eq_true, decide_eq_true_eq, Bool.not_eq_true'] at hall
  obtain ⟨⟨⟨⟨hstate, -⟩, hbit⟩, hscope⟩, hquarantined⟩ := hall
  exact h ⟨hstate, hscope, hbit, hquarantined⟩

theorem State.markDirty_leaves {s : State} {tile : Nat} (h : s.LeavesFor tile) :
    s.markDirty tile = (s.dirtied tile).leaveInsync := by
  obtain ⟨hstate, hscope, hbit, hquarantined⟩ := h
  rw [State.markDirty, State.setDirty_eq_dirtied, if_pos]
  simp [hstate, hscope, hbit, hquarantined, State.runs_of_scopeIs hscope]

/-- INSYNC left for MIRROR, before its pass begins: the event is raised and the UNSYNC mark queued (R65). -/
def State.unsynced (s : State) : State :=
  { s with
    camp.synced := false
    txq := s.txq.join (.syncMark false)
    mgmt := s.mgmt.raise s.cfg.eventMask .insyncLeave }

theorem State.leaveInsync_begun {s : State} (hrole : s.mgmt.role = .sender) :
    s.unsynced.passBegun s.leaveInsync .mirror :=
  State.beginPass_begun s.unsynced .mirror hrole (by decide) (by decide)

/-- What a set request leaves alone, with the fall from INSYNC that it may bring. -/
structure State.SetKept (s t : State) : Prop where
  mem : t.mem = s.mem
  mon : t.mon = s.mon
  aud : t.aud = s.aud
  cfg : t.cfg = s.cfg
  inFlight : t.eng.inFlight = s.eng.inFlight
  faults : t.eng.faults = s.eng.faults
  latches : t.mgmt.latches = s.mgmt.latches
  ending : t.camp.state = .ending ↔ s.camp.state = .ending
  endReason : t.camp.endReason = s.camp.endReason
  bits : ∀ u, s.bit u = true → t.bit u = true

theorem State.dirtied_setKept (s : State) (tile : Nat) : s.SetKept (s.dirtied tile) where
  mem := rfl
  mon := rfl
  aud := rfl
  cfg := rfl
  inFlight := rfl
  faults := rfl
  latches := rfl
  ending := Iff.rfl
  endReason := rfl
  bits u hu := by
    rw [State.bit] at hu
    rw [State.bit, State.dirtied, getLsbD_setBit, hu, Bool.true_or]

theorem State.SetKept.trans {s u t : State} (hsu : s.SetKept u) (hut : u.SetKept t) : s.SetKept t where
  mem := hut.mem.trans hsu.mem
  mon := hut.mon.trans hsu.mon
  aud := hut.aud.trans hsu.aud
  cfg := hut.cfg.trans hsu.cfg
  inFlight := hut.inFlight.trans hsu.inFlight
  faults := hut.faults.trans hsu.faults
  latches := hut.latches.trans hsu.latches
  ending := hut.ending.trans hsu.ending
  endReason := hut.endReason.trans hsu.endReason
  bits v hv := hut.bits v (hsu.bits v hv)

theorem State.leaveInsync_setKept {s : State} (hrole : s.mgmt.role = .sender) (hstate : s.camp.state = .insync) :
    s.SetKept s.leaveInsync := by
  obtain ⟨hcamp, heng, -, hnone, hsome, hmem, hmon, -, haud, -, hmgmt, hcfg, -⟩ := State.leaveInsync_begun hrole
  refine ⟨hmem, hmon, haud, hcfg, by rw [heng]; rfl, by rw [heng]; rfl, by rw [hmgmt]; rfl, ?_, by rw [hcamp]; rfl,
    fun u hu => ?_⟩
  · simp [hcamp, hstate]
  · cases hpending : s.tables.pending with
    | none => rwa [State.bit, (hnone hpending).1]
    | some bank =>
      obtain ⟨-, -, hbits⟩ := hsome bank hpending
      rw [hbits u, show s.unsynced.bit u = true from hu, Bool.true_or]

theorem State.markDirty_setKept (s : State) (tile : Nat) : s.SetKept (s.markDirty tile) := by
  by_cases h : s.LeavesFor tile
  · rw [State.markDirty_leaves h]
    obtain ⟨hstate, hscope, -⟩ := h
    exact (s.dirtied_setKept tile).trans
      (State.leaveInsync_setKept (s := s.dirtied tile) (State.sender_of_scopeIs hscope) hstate)
  · rw [State.markDirty_stays h]
    exact s.dirtied_setKept tile

/-- A set request outside a link loss sets the bit, where the window has it (R30). -/
theorem State.markDirty_bit (s : State) (tile : Nat) :
    (s.markDirty tile).bit tile = (s.bit tile || decide (tile < 131072)) := by
  by_cases ht : tile < 131072
  · have hset : (s.dirtied tile).bit tile = true := by
      rw [State.bit, State.dirtied, getLsbD_setBit]
      simp [ht]
    have hmarked : (s.markDirty tile).bit tile = true := by
      by_cases h : s.LeavesFor tile
      · rw [State.markDirty_leaves h]
        obtain ⟨hstate, hscope, -⟩ := h
        exact (State.leaveInsync_setKept (s := s.dirtied tile)
          (State.sender_of_scopeIs hscope) hstate).bits tile hset
      · rwa [State.markDirty_stays h]
    rw [hmarked, decide_eq_true ht, Bool.or_true]
  · have hout : ∀ u : State, u.bit tile = false := fun u => BitVec.getLsbD_of_ge u.map tile (by omega)
    rw [hout, hout, decide_eq_false ht]
    rfl

/-- What the fall from INSYNC leaves of the campaign and, with no bank pending, of the transmit queue (R65). -/
theorem State.markDirty_fallen {s : State} {tile : Nat} (h : s.LeavesFor tile) :
    (s.markDirty tile).camp.state = .mirror ∧ (s.markDirty tile).camp.synced = false
      ∧ (s.tables.pending = none → (s.markDirty tile).txq = s.txq.join (.syncMark false)) := by
  rw [State.markDirty_leaves h]
  obtain ⟨-, hscope, -⟩ := h
  obtain ⟨hcamp, -, -, hnone, -⟩ :=
    State.leaveInsync_begun (s := s.dirtied tile) (State.sender_of_scopeIs hscope)
  refine ⟨by rw [hcamp], by rw [hcamp]; rfl, fun hpending => ?_⟩
  obtain ⟨-, -, htxq⟩ := hnone hpending
  rw [htxq]
  rfl

/-! ### Strikes (R108, R109) -/

theorem find?_fault_eq_none_iff (l : List FaultEntry) (tile : Nat) :
    (l.find? fun f => f.tile == tile) = none ↔ ∀ f ∈ l, f.tile ≠ tile := by
  simp [List.find?_eq_none]

theorem State.strike_first {s : State} {tile : Nat} (hnew : ∀ f ∈ s.eng.faults, f.tile ≠ tile)
    (hroom : s.eng.faults.length < 16) :
    s.strike tile = { s with eng.faults := s.eng.faults ++ [⟨tile, 1, false⟩] } := by
  rw [State.strike, (find?_fault_eq_none_iff _ _).mpr hnew]
  exact if_pos hroom

/-- A new suspect that a full fault list has no place for ends the campaign (R109). -/
theorem State.strike_full {s : State} {tile : Nat} (hnew : ∀ f ∈ s.eng.faults, f.tile ≠ tile)
    (hfull : 16 ≤ s.eng.faults.length) :
    s.strike tile = s.ended (if s.camp.state = .ending then s.camp.endReason else .faultListFull) := by
  rw [State.strike, (find?_fault_eq_none_iff _ _).mpr hnew, ← State.close_eq]
  exact if_neg (Nat.not_lt_of_le hfull)

theorem State.strike_second {s : State} {tile : Nat} {f : FaultEntry}
    (hfound : (s.eng.faults.find? fun f => f.tile == tile) = some f) (hsuspect : f.quarantined = false) :
    s.strike tile =
      { s with
        eng.faults := s.eng.faults.map fun g => if g.tile = tile then ⟨tile, 2, true⟩ else g
        txq := s.txq.join (.quarantine tile) } := by
  rw [State.strike, hfound]
  exact if_neg (by simp [hsuspect])

theorem State.strike_quarantined {s : State} {tile : Nat} {f : FaultEntry}
    (hfound : (s.eng.faults.find? fun f => f.tile == tile) = some f) (hout : f.quarantined = true) :
    s.strike tile = s := by
  rw [State.strike, hfound]
  exact if_pos hout

/-- A strike changes the fault list and the transmit queue, or ends the campaign. -/
theorem State.strike_cases (s : State) (tile : Nat) :
    (∃ faults txq, s.strike tile = { s with eng.faults := faults, txq := txq }) ∨ ∃ reason, s.strike tile = s.ended reason := by
  cases hfound : (s.eng.faults.find? fun f => f.tile == tile) with
  | none =>
    have hnew := (find?_fault_eq_none_iff _ _).mp hfound
    rcases Nat.lt_or_ge s.eng.faults.length 16 with hroom | hfull
    · exact .inl ⟨_, s.txq, State.strike_first hnew hroom⟩
    · exact .inr ⟨_, State.strike_full hnew hfull⟩
  | some f =>
    cases hq : f.quarantined with
    | false => exact .inl ⟨_, _, State.strike_second hfound hq⟩
    | true => exact .inl ⟨s.eng.faults, s.txq, State.strike_quarantined hfound hq⟩

/-- The second strike of a suspect quarantines its tile. -/
theorem State.quarantined_of_second {s t : State} {tile : Nat} {f : FaultEntry}
    (hfound : (s.eng.faults.find? fun f => f.tile == tile) = some f)
    (ht : t.eng.faults = s.eng.faults.map fun g => if g.tile = tile then ⟨tile, 2, true⟩ else g) :
    t.quarantined tile = true := by
  have htile : f.tile = tile := by simpa using List.find?_some hfound
  rw [State.quarantined, ht, List.any_map, List.any_eq_true]
  exact ⟨f, List.mem_of_find?_eq_some hfound, by simp [htile]⟩

end Sys2Proof.Machine
end

section
/-! SUPPORT. Rules of the end of a line read (R102 to R104, R107, R170): what DONE and RETRY change in the in-flight entry, how a
TILE entry is cut back, and what a failed tile read leaves. -/

namespace Sys2Proof.Machine

/-- The part with a transfer that has terminated taken off the far port (R6). -/
def State.withoutTransfer (s : State) (id : Nat) : State :=
  { s with mem.outstanding := s.mem.outstanding.filter fun y => y.id != id }

section
variable {s : State} {id tile line : Nat} {x : FarTransfer} {e : InFlight}
  (hx : (s.mem.outstanding.find? fun x => x.id == id) = some x) (howner : x.owner = .copy tile line)
include hx howner

/-- The termination of a read that COPY holds acts on the in-flight entry of its tile (R6, R102). -/
theorem exec_farTermination_copy (term : Term) :
    exec (.farTermination id term) s = .next ((s.withoutTransfer id).copyTermination tile line term) := by
  have hexec : exec (.farTermination id term) s = execFarTermination id term s := rfl
  rw [hexec, execFarTermination, hx]
  simp only [State.routeTermination, howner]
  rfl

variable (he : (s.eng.inFlight.find? fun e => e.tile == tile) = some e)
include he

theorem exec_farTermination_copyDone (data : Line) :
    exec (.farTermination id (.done data)) s = .next ((s.withoutTransfer id).lineDone e line data) := by
  rw [exec_farTermination_copy hx howner, State.copyTermination,
    show ((s.withoutTransfer id).eng.inFlight.find? fun e => e.tile == tile) = some e from he]

theorem exec_farTermination_copyRetry :
    exec (.farTermination id .retry) s = .next ((s.withoutTransfer id).lineRetry e line) := by
  rw [exec_farTermination_copy hx howner, State.copyTermination,
    show ((s.withoutTransfer id).eng.inFlight.find? fun e => e.tile == tile) = some e from he]

theorem exec_farTermination_copyFault :
    exec (.farTermination id .fault) s = .next ((s.withoutTransfer id).lineFault tile) := by
  rw [exec_farTermination_copy hx howner, State.copyTermination,
    show ((s.withoutTransfer id).eng.inFlight.find? fun e => e.tile == tile) = some e from he]

end

/-! ### DONE and RETRY (R102, R103, R170) -/

/-- An entry with the line of a read that ended DONE. -/
def InFlight.filled (e : InFlight) (line : Nat) (data : Line) : InFlight :=
  { e with done := e.done + 1, retries := setRetry e.retries line 0, buffer := e.buffer ++ [(line, data)] }

theorem State.lineDone_going {s : State} {e : InFlight} (line : Nat) (data : Line)
    (h : e.kind = .copy ∨ e.done + 1 ≠ 512) : s.lineDone e line data = s.updateEntry e.tile fun _ => e.filled line data := by
  refine if_neg fun hlast => ?_
  simp only [Bool.and_eq_true, decide_eq_true_eq] at hlast
  obtain ⟨hkind, hdone⟩ := hlast
  rcases h with h | h
  · rw [h] at hkind
    exact CopyKind.noConfusion hkind
  · exact h hdone

/-- An entry put in place of a tile's is the one that a further change of the tile's entry meets. -/
theorem State.updateEntry_const (s : State) (e : InFlight) (f : InFlight → InFlight) :
    (s.updateEntry e.tile fun _ => e).updateEntry e.tile f = s.updateEntry e.tile fun _ => f e := by
  have htwice : ∀ g : InFlight, (fun h : InFlight => if h.tile = e.tile then f h else h)
      (if g.tile = e.tile then e else g) = if g.tile = e.tile then f e else g := fun g => by
    by_cases hg : g.tile = e.tile <;> simp [hg]
  simp only [State.updateEntry, List.map_map]
  rw [show _ ∘ _ = _ from funext htwice]

/-- The last DONE of an AUDIT entry queues its DIGEST and frees the buffer (R170). -/
theorem State.lineDone_digest {s : State} {e : InFlight} (line : Nat) (data : Line) (hkind : e.kind = .audit)
    (hdone : e.done + 1 = 512) : s.lineDone e line data =
      (s.updateEntry e.tile fun _ => { e.filled line data with buffer := [] }).queueMark
        (.digest e.tile (digestOf (bufferLines (e.buffer ++ [(line, data)])))) := by
  have hlast : s.lineDone e line data =
      ((s.updateEntry e.tile fun _ => e.filled line data).updateEntry e.tile fun e => { e with buffer := [] }).queueMark
        (.digest e.tile (digestOf (bufferLines (e.buffer ++ [(line, data)])))) :=
    if_pos (by simp [hkind, hdone, Config.tileLines])
  rw [hlast]
  exact congrArg (State.queueMark · _) (s.updateEntry_const (e.filled line data) _)

theorem State.lineRetry_again {s : State} {e : InFlight} {line : Nat} (h : retryCount e.retries line + 1 ≠ 32) :
    s.lineRetry e line = s.updateEntry e.tile fun g =>
      { g with retries := setRetry g.retries line (retryCount e.retries line + 1), waiting := g.waiting ++ [line] } :=
  if_neg h

theorem State.lineRetry_last {s : State} {e : InFlight} {line : Nat} (h : retryCount e.retries line + 1 = 32) :
    s.lineRetry e line = s.lineFault e.tile :=
  if_pos h

/-! ### The TILE entry cut back (R104) -/

theorem State.cutBack_frame (s : State) (tile : Nat) : s.cutBack tile = { s with txq := (s.cutBack tile).txq } := by
  unfold State.cutBack
  split
  · rfl
  · split_ifs <;> rfl

theorem State.cutBack_none {s : State} {tile : Nat} (h : ∀ q ∈ s.txq.queue, q.body ≠ .tile tile) :
    s.cutBack tile = s := by
  have hnone : (s.txq.queue.find? fun e => e.body == .tile tile) = none := by simpa [List.find?_eq_none] using h
  rw [State.cutBack, hnone]

section
variable {s : State} {tile : Nat} {before after : List TxEntry} {q : TxEntry}
  (hq : s.txq.queue = before ++ q :: after) (hbody : q.body = .tile tile) (hfirst : ∀ p ∈ before, p.body ≠ .tile tile)
include hq hbody hfirst

theorem State.cutBack_found : s.cutBack tile =
    if q.sent = 0 then { s with txq := s.txq.remove q.id }
    else { s with txq.queue := s.txq.queue.map fun p =>
      if p.id = q.id then { p with body := .tileCut tile p.sent } else p } := by
  have hfind : (s.txq.queue.find? fun e => e.body == .tile tile) = some q := by
    rw [hq, List.find?_append, List.find?_eq_none.mpr (by simpa using hfirst), Option.none_or]
    exact List.find?_cons_of_pos (by simp [hbody])
  rw [State.cutBack, hfind]

variable (hlaw : s.QueueLaw)
include hlaw

omit hbody hfirst in
/-- The other entries of the queue have other numbers. -/
theorem State.QueueLaw.id_ne : ∀ p ∈ before ++ after, p.id ≠ q.id := by
  obtain ⟨-, -, hnodup, -⟩ := hlaw
  rw [hq, (List.perm_middle.map _).nodup_iff, List.map_cons, List.nodup_cons] at hnodup
  exact fun p hp hid => hnodup.1 (hid ▸ List.mem_map_of_mem hp)

theorem State.cutBack_withdrawn (hsent : q.sent = 0) :
    (s.cutBack tile).txq = TxQueue.refill { s.txq with queue := before ++ after } := by
  have hothers := State.QueueLaw.id_ne hq hlaw
  have hfilter : (s.txq.queue.filter fun e => e.id != q.id) = before ++ after := by
    rw [hq, List.filter_append, List.filter_cons_of_neg (by simp), ← List.filter_append, List.filter_eq_self]
    simpa using hothers
  rw [State.cutBack_found hq hbody hfirst, if_pos hsent, TxQueue.remove, hfilter]

theorem State.cutBack_cut (hsent : 0 < q.sent) : (s.cutBack tile).txq =
    { s.txq with queue := before ++ { q with body := .tileCut tile q.sent } :: after } := by
  have hothers := State.QueueLaw.id_ne hq hlaw
  have hkeeps : ∀ l : List TxEntry, (∀ p ∈ l, p.id ≠ q.id) →
      (l.map fun p => if p.id = q.id then { p with body := .tileCut tile p.sent } else p) = l := fun l hl =>
    (List.map_congr_left fun p hp => if_neg (hl p hp)).trans (List.map_id l)
  rw [State.cutBack_found hq hbody hfirst, if_neg hsent.ne', hq, List.map_append, List.map_cons,
    hkeeps before fun p hp => hothers p (List.mem_append_left _ hp),
    hkeeps after fun p hp => hothers p (List.mem_append_right _ hp), if_pos rfl]

end

/-! ### A failed tile read (R104, R107, R108) -/

/-- The sender after a failed tile read, before the strike: the TILE entry cut back, the tile dirty again and out of flight, its
reads abandoned and FAR_FAULT latched. -/
def State.readFailed (s : State) (tile : Nat) : State :=
  (((s.cutBack tile).markDirty tile).latch .farFault).abandonEntry tile

theorem State.lineFault_eq (s : State) (tile : Nat) : s.lineFault tile = (s.readFailed tile).strike tile := rfl

theorem State.cutBack_setKept (s : State) (tile : Nat) : s.SetKept (s.cutBack tile) := by
  rw [s.cutBack_frame]
  exact ⟨rfl, rfl, rfl, rfl, rfl, rfl, rfl, Iff.rfl, rfl, fun _ hu => hu⟩

theorem State.cutBack_markDirty_setKept (s : State) (tile : Nat) :
    s.SetKept ((s.cutBack tile).markDirty tile) :=
  (s.cutBack_setKept tile).trans ((s.cutBack tile).markDirty_setKept tile)

theorem State.readFailed_faults (s : State) (tile : Nat) : (s.readFailed tile).eng.faults = s.eng.faults :=
  (s.cutBack_markDirty_setKept tile).faults

theorem State.readFailed_latched (s : State) (tile : Nat) : (s.readFailed tile).latched .farFault = true :=
  State.latched_latch _ .farFault

theorem State.readFailed_isInFlight (s : State) (tile : Nat) : (s.readFailed tile).isInFlight tile = false := by
  simp [State.readFailed, State.isInFlight]

theorem State.readFailed_outstanding (s : State) (tile : Nat) : (s.readFailed tile).mem.outstanding =
    s.mem.outstanding.map fun x => if (match x.owner with
      | .copy u _ => u == tile
      | _ => false) then { x with owner := .abandoned } else x := by
  rw [← (s.cutBack_markDirty_setKept tile).mem]
  rfl

theorem State.readFailed_owner (s : State) (tile : Nat) :
    ∀ y ∈ (s.readFailed tile).mem.outstanding, ∀ l, y.owner ≠ .copy tile l := by
  rw [State.readFailed_outstanding]
  intro y hy l
  obtain ⟨x, -, rfl⟩ := List.mem_map.mp hy
  split_ifs with h
  · simp
  · intro howner
    simp [howner] at h

theorem State.readFailed_ids (s : State) (tile : Nat) :
    ((s.readFailed tile).mem.outstanding.map fun y => y.id) = s.mem.outstanding.map fun y => y.id := by
  rw [← (s.cutBack_markDirty_setKept tile).mem]
  exact State.abandonOwned_ids _ _

theorem State.readFailed_bit (s : State) (tile : Nat) :
    (s.readFailed tile).bit tile = (s.bit tile || decide (tile < 131072)) := by
  have hbit : (s.cutBack tile).bit tile = s.bit tile := by rw [s.cutBack_frame]; rfl
  rw [← hbit]
  exact State.markDirty_bit _ tile

/-- Where the set request leaves INSYNC alone, only the cut changes the transmit queue. -/
theorem State.readFailed_txq {s : State} {tile : Nat} (h : ¬ s.LeavesFor tile) :
    (s.readFailed tile).txq = (s.cutBack tile).txq := by
  have hstays : ¬ (s.cutBack tile).LeavesFor tile := by
    rw [s.cutBack_frame]
    exact h
  have htxq : ((s.cutBack tile).markDirty tile).txq = (s.cutBack tile).txq := by
    rw [State.markDirty_stays hstays]
    rfl
  exact htxq

/-- The reason a full fault list ends the campaign with is not changed by the failed read. -/
theorem State.readFailed_reason (s : State) (tile : Nat) (reason : ExitReason) :
    (if (s.readFailed tile).camp.state = .ending then (s.readFailed tile).camp.endReason else reason)
      = if s.camp.state = .ending then s.camp.endReason else reason := by
  have hkept := s.cutBack_markDirty_setKept tile
  have hending : (s.readFailed tile).camp.state = .ending ↔ s.camp.state = .ending := hkept.ending
  have hreason : (s.readFailed tile).camp.endReason = s.camp.endReason := hkept.endReason
  simp only [hending, hreason]

/-! ### What a strike keeps -/

section
variable (s : State) (tile : Nat)

theorem State.strike_latched {l : Latch} (h : s.latched l = true) : (s.strike tile).latched l = true := by
  rcases s.strike_cases tile with ⟨faults, txq, hs⟩ | ⟨reason, hs⟩ <;> rw [hs] <;> exact h

theorem State.strike_isInFlight {u : Nat} (h : s.isInFlight u = false) : (s.strike tile).isInFlight u = false := by
  rcases s.strike_cases tile with ⟨faults, txq, hs⟩ | ⟨reason, hs⟩ <;> rw [hs]
  · exact h
  · rfl

theorem State.strike_owner {u l : Nat} (h : ∀ y ∈ s.mem.outstanding, y.owner ≠ .copy u l) :
    ∀ y ∈ (s.strike tile).mem.outstanding, y.owner ≠ .copy u l := by
  rcases s.strike_cases tile with ⟨faults, txq, hs⟩ | ⟨reason, hs⟩ <;> rw [hs]
  · exact h
  · intro y hy
    obtain ⟨x, -, rfl⟩ := List.mem_map.mp (show y ∈ s.mem.withoutCopies from hy)
    cases hx : x.owner <;> simp [hx]

theorem State.strike_ids :
    ((s.strike tile).mem.outstanding.map fun y => y.id) = s.mem.outstanding.map fun y => y.id := by
  rcases s.strike_cases tile with ⟨faults, txq, hs⟩ | ⟨reason, hs⟩ <;> rw [hs]
  · have hended : (s.ended reason).mem.outstanding = s.abandonAll.mem.outstanding := s.abandonAll_outstanding.symm
    rw [hended]
    exact State.abandonOwned_ids _ _

end

end Sys2Proof.Machine

/-! PROOFS. The end of a line read (R102 to R104, R107 to R109, R170): O26. -/

namespace Sys2Proof.Proofs
open Sys2Proof.Machine

/-- Settles O26: DONE and RETRY change the in-flight entry of the tile; FAULT and the 32nd RETRY both fail the tile read, and the
strike that follows goes by the fault list as it stood. -/
theorem lineReadsEnd : Obligations.LineReadsEnd := by
  intro id tile line term s x e hx howner he s1 with_
  obtain rfl : e.tile = tile := by simpa using List.find?_some he
  refine ⟨?_, ?_, ?_, fun hterm => ?_⟩
  · rintro data rfl hgoing
    rw [exec_farTermination_copyDone hx howner he, State.lineDone_going line data hgoing]
    rfl
  · rintro data rfl hkind hdone
    rw [exec_farTermination_copyDone hx howner he, State.lineDone_digest line data hkind hdone, ← hdone]
    rfl
  · rintro rfl hagain
    rw [exec_farTermination_copyRetry hx howner he, State.lineRetry_again hagain]
    rfl
  have hfault : exec (.farTermination id term) s = .next ((s1.readFailed e.tile).strike e.tile) := by
    rcases hterm with rfl | ⟨rfl, hlast⟩
    · exact exec_farTermination_copyFault hx howner he
    · rw [exec_farTermination_copyRetry hx howner he, State.lineRetry_last hlast]
      rfl
  let v := s1.readFailed e.tile
  have hfaults : v.eng.faults = s.eng.faults := s1.readFailed_faults e.tile
  have first : (∀ f ∈ s.eng.faults, f.tile ≠ e.tile) → s.eng.faults.length < 16 →
      v.strike e.tile = { v with eng.faults := s.eng.faults ++ [⟨e.tile, 1, false⟩] } := fun hnew hroom => by
    rw [← hfaults] at hnew hroom ⊢
    exact State.strike_first hnew hroom
  have second : (s.eng.faults.find? fun f => f.tile == e.tile) = some ⟨e.tile, 1, false⟩ → v.strike e.tile =
      { v with
        eng.faults := s.eng.faults.map fun f => if f.tile = e.tile then ⟨e.tile, 2, true⟩ else f
        txq := v.txq.join (.quarantine e.tile) } := fun hfound => by
    rw [← hfaults] at hfound ⊢
    exact State.strike_second hfound rfl
  refine ⟨v.strike e.tile, hfault, v.strike_latched e.tile (s1.readFailed_latched e.tile),
    v.strike_isInFlight e.tile (s1.readFailed_isInFlight e.tile),
    fun y hy l => v.strike_owner e.tile (fun y hy => s1.readFailed_owner e.tile y hy l) y hy,
    (v.strike_ids e.tile).trans (s1.readFailed_ids e.tile), fun hnew hroom => ?_, fun hfound => ?_, fun hnew hfull => ?_,
    fun cut hcut hstays => ?_⟩
  · rw [first hnew hroom]
    exact ⟨rfl, s1.readFailed_bit e.tile⟩
  · rw [second hfound]
    exact ⟨rfl, State.quarantined_of_second hfound rfl, s1.readFailed_bit e.tile⟩
  · rw [← hfaults] at hnew hfull
    rw [State.strike_full hnew hfull, s1.readFailed_reason]
    exact ⟨rfl, rfl, hfaults, rfl, fun h => if_neg h, fun h => if_pos h⟩
  · have hleaves : ¬ s1.LeavesFor e.tile := by
      rintro ⟨hstate, hscope, hbit, hquarantined⟩
      rcases hstays with h | h | h | h
      · exact h hstate
      · exact Bool.false_ne_true (h.symm.trans hscope)
      · exact Bool.false_ne_true (hbit.symm.trans h)
      · exact Bool.false_ne_true (hquarantined.symm.trans h)
    have htxq : v.txq = cut := by
      rw [State.readFailed_txq hleaves]
      rcases hcut with ⟨hnone, rfl⟩ | ⟨before, q, after, hq, hbody, hlaw, hfirst, hwithdrawn, hcutBack⟩
      · rw [State.cutBack_none (s := s1) hnone]
      · rcases Nat.eq_zero_or_pos q.sent with hsent | hsent
        · rw [hwithdrawn hsent]
          exact State.cutBack_withdrawn (s := s1) hq hbody hfirst hlaw hsent
        · rw [hcutBack hsent]
          exact State.cutBack_cut (s := s1) hq hbody hfirst hlaw hsent
    refine ⟨fun hnew hroom => ?_, fun hfound => ?_, fun hfound => ?_⟩
    · rw [first hnew hroom, ← htxq]
    · rw [second hfound, ← htxq]
    · rw [← hfaults] at hfound ⊢
      rw [State.strike_quarantined hfound rfl, ← htxq]
      exact ⟨rfl, rfl⟩

end Sys2Proof.Proofs
end

section
/-! SUPPORT. Rules of the reports that name a tile (R106, R110, R171, R184): what FAULTED marks before its strike, what a
DIGEST_RESULT drops, and when a DEMAND joins the demand queue. -/

namespace Sys2Proof.Machine

/-! ### Frames a sender takes (R136, R184) -/

section
variable {s : State} (hrole : s.mgmt.role = .sender) (hopen : s.link.state = .up ∨ s.link.state = .cooldown)
include hrole hopen

theorem State.onFrame_sender (f : State → State) : s.onFrame .sender f = f s.goodReceived := by
  have hgood : s.goodFrame = s.goodReceived := rfl
  rcases hopen with h | h <;> simp only [State.onFrame, h, hrole, if_true, hgood]

/-- A report of a tile above 131071 has no effect beyond that of a good frame (R184). -/
theorem exec_report_unnamed {tile : BitVec 32} (seq : Seq) (h : 131072 ≤ tile.toNat) :
    exec (.faulted seq tile) s = .next s.goodReceived ∧ exec (.demand tile) s = .next s.goodReceived
      ∧ ∀ r, exec (.digestResult seq tile r) s = .next s.goodReceived := by
  have hname : tileNamed tile = false := decide_eq_false (Nat.not_lt_of_le h)
  have hfaulted : exec (.faulted seq tile) s = execFaulted seq tile s := rfl
  have hdemand : exec (.demand tile) s = execDemand tile s := rfl
  have hresult : ∀ r, exec (.digestResult seq tile r) s = execDigestResult seq tile r s := fun _ => rfl
  refine ⟨?_, ?_, fun r => ?_⟩
  · rw [hfaulted, execFaulted, State.onFrame_sender hrole hopen, hname]
    rfl
  · rw [hdemand, execDemand, State.onFrame_sender hrole hopen, hname]
    rfl
  · rw [hresult, execDigestResult, State.onFrame_sender hrole hopen, hname]
    cases boolOf r <;> rfl

variable {tile : BitVec 32} (htile : tile.toNat < 131072)
include htile

theorem exec_faulted_named (seq : Seq) :
    exec (.faulted seq tile) s = .next (s.goodReceived.takeFaulted tile.toNat) := by
  have hname : tileNamed tile = true := decide_eq_true htile
  have hexec : exec (.faulted seq tile) s = execFaulted seq tile s := rfl
  rw [hexec, execFaulted, State.onFrame_sender hrole hopen, if_pos hname]

theorem exec_demand_named :
    exec (.demand tile) s = .next (s.goodReceived.takeDemandFrame tile.toNat) := by
  have hname : tileNamed tile = true := decide_eq_true htile
  have hexec : exec (.demand tile) s = execDemand tile s := rfl
  rw [hexec, execDemand, State.onFrame_sender hrole hopen, if_pos hname]

theorem exec_digestResult_named (seq : Seq) (m : Bool) :
    exec (.digestResult seq tile (boolByte m)) s = .next (s.goodReceived.takeResult seq tile.toNat m) := by
  have hname : tileNamed tile = true := decide_eq_true htile
  have hexec : exec (.digestResult seq tile (boolByte m)) s = execDigestResult seq tile (boolByte m) s := rfl
  rw [hexec, execDigestResult, State.onFrame_sender hrole hopen, boolOf_eq_some_iff.mpr rfl]
  exact congrArg Host.Outcome.next (if_pos hname)

omit htile in
theorem exec_digestResult_unknown {r : Byte} (seq : Seq) (tile : BitVec 32) (h : 1 < r.toNat) :
    exec (.digestResult seq tile r) s = .next s.goodReceived := by
  have hexec : exec (.digestResult seq tile r) s = execDigestResult seq tile r s := rfl
  have hnone : boolOf r = none := by
    rw [Option.eq_none_iff_forall_ne_some]
    rintro m hm
    have := boolByte_le m
    rw [boolOf_eq_some_iff] at hm
    subst hm
    omega
  rw [hexec, execDigestResult, State.onFrame_sender hrole hopen, hnone]

end

/-! ### FAULTED (R106) -/

theorem SenderState.live_iff (st : SenderState) : st.live = true ↔ st ∉ [SenderState.idle, .armed, .handedOver] := by
  cases st <;> simp [SenderState.live]

/-- The sender after FAULTED's set request, with the tile's entry in flight marked, before the strike. -/
def State.faultMarked (s : State) (tile : Nat) : State := (s.markDirty tile).markFaulted tile

theorem State.takeFaulted_live {s : State} (tile : Nat) (h : s.camp.state ∉ [SenderState.idle, .armed, .handedOver]) :
    s.takeFaulted tile = (s.faultMarked tile).strike tile :=
  if_pos ((SenderState.live_iff _).mpr h)

theorem State.takeFaulted_resting {s : State} (tile : Nat) (h : s.camp.state ∈ [SenderState.idle, .armed, .handedOver]) :
    s.takeFaulted tile = s :=
  if_neg fun hlive => (SenderState.live_iff _).mp hlive h

theorem State.faultMarked_faults (s : State) (tile : Nat) : (s.faultMarked tile).eng.faults = s.eng.faults :=
  (s.markDirty_setKept tile).faults

theorem State.faultMarked_inFlight (s : State) (tile : Nat) : (s.faultMarked tile).eng.inFlight =
    s.eng.inFlight.map fun e => if e.tile = tile then { e with faulted := true } else e := by
  rw [← (s.markDirty_setKept tile).inFlight]
  rfl

theorem State.faultMarked_bit (s : State) {tile : Nat} (h : tile < 131072) : (s.faultMarked tile).bit tile = true := by
  have hbit : (s.markDirty tile).bit tile = true := by rw [s.markDirty_bit, decide_eq_true h, Bool.or_true]
  exact hbit

/-- The reason a full fault list ends the campaign with is not changed by the set request. -/
theorem State.faultMarked_reason (s : State) (tile : Nat) (reason : ExitReason) :
    (if (s.faultMarked tile).camp.state = .ending then (s.faultMarked tile).camp.endReason else reason)
      = if s.camp.state = .ending then s.camp.endReason else reason := by
  have hkept := s.markDirty_setKept tile
  have hending : (s.faultMarked tile).camp.state = .ending ↔ s.camp.state = .ending := hkept.ending
  have hreason : (s.faultMarked tile).camp.endReason = s.camp.endReason := hkept.endReason
  simp only [hending, hreason]

theorem State.faultMarked_stays {s : State} {tile : Nat} (h : ¬ s.LeavesFor tile) :
    (s.faultMarked tile).txq = s.txq ∧ (s.faultMarked tile).camp = s.camp := by
  rw [State.faultMarked, State.markDirty_stays h]
  exact ⟨rfl, rfl⟩

theorem State.faultMarked_fallen {s : State} {tile : Nat} (h : s.LeavesFor tile) :
    (s.faultMarked tile).camp.state = .mirror ∧ (s.faultMarked tile).camp.synced = false
      ∧ (s.tables.pending = none → (s.faultMarked tile).txq = s.txq.join (.syncMark false)) :=
  State.markDirty_fallen h

/-- A quarantined tile is found in the fault list as an entry that is QUARANTINED, where each entry of it is. -/
theorem State.find?_of_quarantined {s : State} {tile : Nat} (h : s.quarantined tile = true)
    (hall : ∀ f ∈ s.eng.faults, f.tile = tile → f.quarantined = true) :
    ∃ f, (s.eng.faults.find? fun f => f.tile == tile) = some f ∧ f.quarantined = true := by
  cases hfound : (s.eng.faults.find? fun f => f.tile == tile) with
  | none =>
    obtain ⟨f, hf, hq⟩ := List.any_eq_true.mp h
    simp only [Bool.and_eq_true, beq_iff_eq] at hq
    exact absurd hq.2 ((find?_fault_eq_none_iff _ _).mp hfound f hf)
  | some f =>
    have htile : f.tile = tile := by simpa using List.find?_some hfound
    exact ⟨f, rfl, hall f (List.mem_of_find?_eq_some hfound) htile⟩

/-! ### DIGEST_RESULT (R171) -/

/-- The sender with the in-flight entry of a tile dropped. -/
def State.withoutEntry (s : State) (tile : Nat) : State :=
  { s with eng.inFlight := s.eng.inFlight.filter fun f => f.tile != tile }

theorem State.takeResult_none {s : State} {seq : Seq} {tile : Nat} (m : Bool)
    (h : ∀ e ∈ s.eng.inFlight, ¬ (e.tile = tile ∧ e.kind = .audit ∧ e.lastSeq = some seq)) :
    s.takeResult seq tile m = s := by
  have hnone : (s.eng.inFlight.find? fun e => e.tile == tile && e.kind == .audit && e.lastSeq == some seq) = none := by
    rw [List.find?_eq_none]
    simpa [and_assoc] using h
  rw [State.takeResult, hnone]

section
variable {s : State} {seq : Seq} {tile : Nat} {e : InFlight}
  (he : (s.eng.inFlight.find? fun e => e.tile == tile && e.kind == .audit && e.lastSeq == some seq) = some e)
include he

theorem State.takeResult_found (m : Bool) : s.takeResult seq tile m =
    if m && !e.redirtied && !e.faulted then (s.withoutEntry tile).mismatch tile else s.withoutEntry tile := by
  rw [State.takeResult, he]
  rfl

theorem State.takeResult_match : s.takeResult seq tile false = s.withoutEntry tile := by
  rw [State.takeResult_found he]
  rfl

theorem State.takeResult_touched (h : e.redirtied = true ∨ e.faulted = true) :
    s.takeResult seq tile true = s.withoutEntry tile := by
  rw [State.takeResult_found he, if_neg]
  rcases h with h | h <;> simp [h]

theorem State.takeResult_mismatch (hredirtied : e.redirtied = false) (hfaulted : e.faulted = false) :
    s.takeResult seq tile true = (s.withoutEntry tile).mismatch tile := by
  rw [State.takeResult_found he, hredirtied, hfaulted]
  rfl

end

/-- A MISMATCH sets the tile dirty, is latched and counts up to its limit. -/
theorem State.mismatch_marks (s : State) {tile : Nat} (h : tile < 131072) :
    (s.mismatch tile).bit tile = true ∧ (s.mismatch tile).latched .auditMismatch = true
      ∧ (s.mismatch tile).aud.mismatch = min 16384 (s.aud.mismatch + 1) := by
  have hbit : (s.markDirty tile).bit tile = true := by rw [s.markDirty_bit, decide_eq_true h, Bool.or_true]
  refine ⟨hbit, (s.markDirty tile).latched_latch .auditMismatch, ?_⟩
  rw [← (s.markDirty_setKept tile).aud]
  rfl

theorem State.mismatch_outside {s : State} (tile : Nat) (h : s.camp.state ≠ .insync) :
    (s.mismatch tile).eng = s.eng ∧ (s.mismatch tile).map = setBit s.map tile := by
  rw [State.mismatch, State.markDirty_stays fun hleaves => h hleaves.1]
  exact ⟨rfl, rfl⟩

/-! ### DEMAND (R110) -/

theorem SenderState.demands_iff (st : SenderState) : st.demands = true ↔
    st ∈ [SenderState.plan, .sweep, .settle, .mirror, .audit, .insync, .freeze, .drain] := by
  cases st <;> simp [SenderState.demands]

theorem State.demandable_iff (s : State) (tile : Nat) : s.demandable tile = true ↔
    (s.scopeIs .copy tile = true ∨ s.scopeIs .late tile = true) ∧ s.bit tile = true ∧ s.isInFlight tile = false
      ∧ s.quarantined tile = false := by
  simp [State.demandable, State.tracked, and_assoc]

theorem State.takeDemandFrame_eq (s : State) (tile : Nat) : s.takeDemandFrame tile =
    if s.camp.state ∈ [SenderState.plan, .sweep, .settle, .mirror, .audit, .insync, .freeze, .drain]
        ∧ (s.scopeIs .copy tile = true ∨ s.scopeIs .late tile = true) ∧ s.bit tile = true ∧ s.isInFlight tile = false
        ∧ s.quarantined tile = false ∧ tile ∉ s.eng.demandQueue ∧ s.eng.demandQueue.length < 8 then
      { s with eng.demandQueue := s.eng.demandQueue ++ [tile] }
    else s := by
  unfold State.takeDemandFrame
  simp only [Bool.and_eq_true, SenderState.demands_iff, State.demandable_iff, and_assoc, Bool.not_eq_true',
    List.contains_eq_mem, decide_eq_false_iff_not, decide_eq_true_eq]
  rfl

end Sys2Proof.Machine

/-! PROOFS. FAULTED, DIGEST_RESULT and DEMAND on the sender (R106, R108 to R110, R171, R184): O52. -/

namespace Sys2Proof.Proofs
open Sys2Proof.Machine

/-- Settles O52: FAULTED is a set request and a mark, then a strike that goes by the fault list; DIGEST_RESULT drops the entry it
names, and only a MISMATCH on an untouched one does more. -/
theorem reportsAboutTiles : Obligations.ReportsAboutTiles := by
  intro seq tile s hrole hopen t g
  refine ⟨exec_report_unnamed hrole hopen seq, fun ht => ⟨fun hrest => ?_, fun hlive => ?_, fun r hr => ?_,
    fun hnone r => ?_, fun e he => ?_, ?_⟩⟩
  · rw [exec_faulted_named hrole hopen ht, State.takeFaulted_resting t (by exact hrest)]
  · let v := g.faultMarked t
    have hfaults : v.eng.faults = s.eng.faults := g.faultMarked_faults t
    have hbit : v.bit t = true := g.faultMarked_bit ht
    have first : (∀ f ∈ s.eng.faults, f.tile ≠ t) → s.eng.faults.length < 16 →
        v.strike t = { v with eng.faults := s.eng.faults ++ [⟨t, 1, false⟩] } := fun hnew hroom => by
      rw [← hfaults] at hnew hroom ⊢
      exact State.strike_first hnew hroom
    have second : (s.eng.faults.find? fun f => f.tile == t) = some ⟨t, 1, false⟩ → v.strike t =
        { v with
          eng.faults := s.eng.faults.map fun f => if f.tile = t then ⟨t, 2, true⟩ else f
          txq := v.txq.join (.quarantine t) } := fun hfound => by
      rw [← hfaults] at hfound ⊢
      exact State.strike_second hfound rfl
    refine ⟨v.strike t, ?_, fun hnew hroom => ?_, fun hfound => ?_, fun hq hall => ?_, ?_, fun hnew hfull => ?_⟩
    · rw [exec_faulted_named hrole hopen ht, State.takeFaulted_live t (by exact hlive)]
    · rw [first hnew hroom]
      exact ⟨hbit, rfl, g.faultMarked_inFlight t⟩
    · rw [second hfound]
      exact ⟨hbit, State.quarantined_of_second hfound rfl, rfl⟩
    · obtain ⟨f, hfound, hout⟩ := State.find?_of_quarantined hq hall
      rw [← hfaults] at hfound
      rw [State.strike_quarantined hfound hout]
      exact ⟨hbit, hfaults⟩
    · intro marked unmarked leaves
      have hmarked : marked → (v.strike t).txq = v.txq.join (.quarantine t) ∧ (v.strike t).camp = v.camp := fun hm => by
        rw [second hm]
        exact ⟨rfl, rfl⟩
      have hunmarked : unmarked → (v.strike t).txq = v.txq ∧ (v.strike t).camp = v.camp := by
        rintro (⟨hnew, hroom⟩ | hfound)
        · rw [first hnew hroom]
          exact ⟨rfl, rfl⟩
        · rw [← hfaults] at hfound
          rw [State.strike_quarantined hfound rfl]
          exact ⟨rfl, rfl⟩
      have hcamp : marked ∨ unmarked → (v.strike t).camp = v.camp :=
        fun h => h.elim (fun hm => (hmarked hm).2) fun hu => (hunmarked hu).2
      have fallen : leaves → v.camp.state = .mirror ∧ v.camp.synced = false
          ∧ (s.tables.pending = none → v.txq = s.txq.join (.syncMark false)) := State.faultMarked_fallen (s := g)
      refine ⟨fun hstays => ?_, fun hl hstrike => ?_, fun hl hpending hm => ?_, fun hl hpending hu => ?_⟩
      · obtain ⟨htxq, hsame⟩ := State.faultMarked_stays (s := g) hstays
        refine ⟨fun hm => ?_, fun hu => ?_⟩
        · rw [hcamp (.inl hm), (hmarked hm).1]
          exact ⟨congrArg (TxQueue.join · _) htxq, hsame⟩
        · rw [hcamp (.inr hu), (hunmarked hu).1]
          exact ⟨htxq, hsame⟩
      · obtain ⟨hstate, hsynced, -⟩ := fallen hl
        rw [hcamp hstrike]
        exact ⟨hstate, hsynced⟩
      · obtain ⟨-, -, htxq⟩ := fallen hl
        rw [(hmarked hm).1, htxq hpending]
      · obtain ⟨-, -, htxq⟩ := fallen hl
        rw [(hunmarked hu).1, htxq hpending]
    · rw [← hfaults] at hnew hfull
      rw [State.strike_full hnew hfull, g.faultMarked_reason]
      exact ⟨rfl, hfaults, rfl⟩
  · exact exec_digestResult_unknown hrole hopen seq tile hr
  · cases hm : boolOf r with
    | none =>
      have hexec : exec (.digestResult seq tile r) s = execDigestResult seq tile r s := rfl
      rw [hexec, execDigestResult, State.onFrame_sender hrole hopen, hm]
    | some m =>
      rw [boolOf_eq_some_iff.mp hm, exec_digestResult_named hrole hopen ht, State.takeResult_none m (by exact hnone)]
  · intro gone
    have hmatch := exec_digestResult_named hrole hopen ht seq false
    have hmismatch := exec_digestResult_named hrole hopen ht seq true
    refine ⟨?_, fun htouched => ?_, fun hredirtied hfaulted => ⟨(g.withoutEntry t).mismatch t, ?_, ?_⟩⟩
    · exact hmatch.trans (congrArg Host.Outcome.next (State.takeResult_match (s := g) he))
    · exact hmismatch.trans (congrArg Host.Outcome.next (State.takeResult_touched (s := g) he htouched))
    · exact hmismatch.trans
        (congrArg Host.Outcome.next (State.takeResult_mismatch (s := g) he hredirtied hfaulted))
    · obtain ⟨hbit, hlatched, hcount⟩ := (g.withoutEntry t).mismatch_marks ht
      exact ⟨hbit, hlatched, hcount, State.mismatch_outside (s := g.withoutEntry t) t⟩
  · rw [exec_demand_named hrole hopen ht, State.takeDemandFrame_eq]
    rfl

end Sys2Proof.Proofs
end

section
/-! SUPPORT. Rules of the sweep walk (R61, R97): the tile a walk finds in a region, the entries the sweep walk passes, with the
REGION_END of each, and where it stands after them. -/

namespace Sys2Proof.Machine

/-! ### The first tile of a region that a walk may offer -/

section
variable {m : TileMap} {p : Nat → Prop} (hm : ∀ u, m.getLsbD u = true ↔ p u) {r : Region} {start : Nat}
include hm

/-- Among the tiles of a map, those of a region. -/
theorem getLsbD_and_regionMask (u : Nat) :
    (m &&& r.mask).getLsbD u = true ↔ p u ∧ r.base ≤ u ∧ u < r.base + r.count := by
  rw [BitVec.getLsbD_and, Region.mask, getLsbD_runMask, Bool.and_eq_true, decide_eq_true_eq, hm]
  exact and_congr_right fun hu => and_iff_right (BitVec.lt_of_getLsbD ((hm u).mpr hu))

theorem firstTile_region_some {tile : Nat} (hstart : start ≤ tile) (hlow : r.base ≤ tile) (hhigh : tile < r.base + r.count)
    (htile : p tile) (hbelow : ∀ u, start ≤ u → u < tile → ¬ p u) : firstTile (m &&& r.mask) start = some tile := by
  rw [firstTile_eq_some_iff]
  refine ⟨hstart, (getLsbD_and_regionMask hm tile).mpr ⟨htile, hlow, hhigh⟩, fun u hu hut => ?_⟩
  exact Bool.eq_false_of_not_eq_true fun hbit => hbelow u hu hut ((getLsbD_and_regionMask hm u).mp hbit).1

theorem firstTile_region_none (h : ∀ u, start ≤ u → r.base ≤ u → u < r.base + r.count → ¬ p u) :
    firstTile (m &&& r.mask) start = none := by
  rw [firstTile_eq_none_iff]
  refine fun u hu => Bool.eq_false_of_not_eq_true fun hbit => ?_
  obtain ⟨hp, hlow, hhigh⟩ := (getLsbD_and_regionMask hm u).mp hbit
  exact h u hu hlow hhigh hp

end

/-! ### The entries passed (R61) -/

/-- The management unit after the sweep walk's visit of a bank entry has ended: REGION_END is raised for a valid region with its
flag on (R61). -/
def State.visitEnd (s : State) (g : Management) (n : Nat) : Management :=
  match s.tables.region n with
  | some r => if r.regionEnd then g.raise s.cfg.eventMask .regionEnd else g
  | none => g

theorem State.visitEnd_valid {s : State} {n : Nat} {r : Region} (g : Management) (hr : s.tables.region n = some r) :
    s.visitEnd g n = if r.regionEnd then g.raise s.cfg.eventMask .regionEnd else g := by
  simp only [State.visitEnd, hr]

theorem State.visitEnd_invalid {s : State} {n : Nat} (g : Management) (hn : s.tables.region n = none) :
    s.visitEnd g n = g := by
  simp only [State.visitEnd, hn]

theorem State.endVisit_mgmt {s : State} {n : Nat} {r : Region} (hr : s.tables.region n = some r) :
    (s.endVisit r).mgmt = s.visitEnd s.mgmt n := by
  rw [State.visitEnd_valid _ hr, State.endVisit]
  split_ifs <;> rfl

theorem State.visitsEnded_eq (s : State) (m : Nat) :
    s.visitsEnded m = ((s.bankEntries.take m).drop s.eng.sweep.entry).foldl s.visitEnd s.mgmt := rfl

theorem State.visitsEnded_of_le {s : State} {m : Nat} (h : m ≤ s.eng.sweep.entry) : s.visitsEnded m = s.mgmt := by
  have hnone : (s.bankEntries.take m).drop s.eng.sweep.entry = [] :=
    List.drop_eq_nil_of_le ((List.length_take_le m _).trans h)
  rw [State.visitsEnded_eq, hnone]
  rfl

theorem State.visitsEnded_succ {s : State} {m n : Nat} (hm : s.eng.sweep.entry ≤ m) (hn : s.bankEntries[m]? = some n) :
    s.visitsEnded (m + 1) = s.visitEnd (s.visitsEnded m) n := by
  have hlength : m < s.bankEntries.length := (List.getElem?_eq_some_iff.mp hn).1
  have hwithin : s.eng.sweep.entry ≤ (s.bankEntries.take m).length := by
    rw [List.length_take]
    omega
  rw [State.visitsEnded_eq, List.take_add_one, hn, List.drop_append_of_le_length hwithin, List.foldl_append]
  rfl

/-- The ends of visits change neither the role nor the level seen on PACE. -/
theorem State.visitsEnded_inputs (s : State) (m : Nat) :
    (s.visitsEnded m).role = s.mgmt.role ∧ (s.visitsEnded m).pace = s.mgmt.pace := by
  have hstep : ∀ (g : Management) (n : Nat), (s.visitEnd g n).role = g.role ∧ (s.visitEnd g n).pace = g.pace :=
    fun g n => by
      unfold State.visitEnd
      split
      · split_ifs <;> exact ⟨rfl, rfl⟩
      · exact ⟨rfl, rfl⟩
  have hall : ∀ (l : List Nat) (g : Management),
      (l.foldl s.visitEnd g).role = g.role ∧ (l.foldl s.visitEnd g).pace = g.pace := by
    intro l
    induction l with
    | nil => exact fun g => ⟨rfl, rfl⟩
    | cons n l ih => exact fun g => ⟨(ih _).1.trans (hstep g n).1, (ih _).2.trans (hstep g n).2⟩
  exact hall _ _

/-- The sweep walk moved on to entry m, the entries before it passed. -/
def State.sweptTo (s : State) (m : Nat) : State :=
  { s with
    eng.sweep := if s.eng.sweep.entry < m then ⟨m, 0⟩ else s.eng.sweep
    mgmt := s.visitsEnded m }

theorem State.sweptTo_entry {s : State} {m : Nat} (hm : s.eng.sweep.entry ≤ m) : (s.sweptTo m).eng.sweep.entry = m := by
  simp only [State.sweptTo]
  split_ifs with h
  · rfl
  · omega

theorem State.sweptTo_offset {s : State} {m : Nat} (hm : s.eng.sweep.entry ≤ m) :
    (s.sweptTo m).eng.sweep.offset = if m = s.eng.sweep.entry then s.eng.sweep.offset else 0 := by
  simp only [State.sweptTo]
  rcases hm.eq_or_lt with rfl | h
  · rw [if_neg (Nat.lt_irrefl _), if_pos rfl]
  · rw [if_pos h, if_neg h.ne']

theorem State.sweptTo_of_le {s : State} {m : Nat} (h : m ≤ s.eng.sweep.entry) : s.sweptTo m = s := by
  rw [State.sweptTo, if_neg (Nat.not_lt_of_le h), State.visitsEnded_of_le h]

/-- An entry the walk has come to is bare for it as it was before. -/
theorem State.sweptTo_sweepBare {s : State} {m : Nat} (hm : s.eng.sweep.entry ≤ m) (h : s.sweepBare m) :
    (s.sweptTo m).sweepBare m := by
  intro n r hn hr hcopy u hlow
  rw [State.sweptTo_entry hm, if_pos rfl, State.sweptTo_offset hm] at hlow
  exact h n r hn hr hcopy u hlow

/-- The walk finds no tile in a bare entry it stands in. -/
theorem State.firstTile_none_of_sweepBare {s : State} {n : Nat} {r : Region}
    (hn : s.bankEntries[s.eng.sweep.entry]? = some n) (hr : s.tables.region n = some r)
    (hbare : s.sweepBare s.eng.sweep.entry) :
    (if r.policy = .copy then firstTile (s.eligible &&& r.mask) (r.base + s.eng.sweep.offset) else none) = none := by
  split_ifs with hcopy
  · refine firstTile_region_none s.getLsbD_eligible fun u hu _ hhigh => hbare n r hn hr hcopy u ?_ hhigh
    rwa [if_pos rfl]
  · rfl

/-- One entry passed. -/
theorem State.moveSweep_passes {fuel n : Nat} {s : State} (hn : s.bankEntries[s.eng.sweep.entry]? = some n)
    (hbare : s.sweepBare s.eng.sweep.entry) :
    s.moveSweep (fuel + 1) = State.moveSweep fuel
      { s with eng.sweep := ⟨s.eng.sweep.entry + 1, 0⟩, mgmt := s.visitEnd s.mgmt n } := by
  rw [State.moveSweep]
  simp only [hn]
  cases hr : s.tables.region n with
  | none => rw [State.visitEnd_invalid _ hr]; rfl
  | some r =>
    simp only [State.firstTile_none_of_sweepBare hn hr hbare]
    rw [← State.endVisit_mgmt hr, s.endVisit_eq r]
    rfl

/-- The sweep walk passes every bare entry from the one it stands in on. -/
theorem State.moveSweep_sweptTo {m : Nat} {s : State} (hm : s.eng.sweep.entry ≤ m) (hlength : m ≤ s.bankEntries.length)
    (hbare : ∀ k, s.eng.sweep.entry ≤ k → k < m → s.sweepBare k) (fuel : Nat) :
    s.moveSweep (fuel + (m - s.eng.sweep.entry)) = (s.sweptTo m).moveSweep fuel := by
  induction m, hm using Nat.le_induction generalizing fuel with
  | base => rw [State.sweptTo_of_le (Nat.le_refl _), Nat.sub_self, Nat.add_zero]
  | succ m hm ih =>
    obtain ⟨n, hn⟩ : ∃ n, s.bankEntries[m]? = some n := ⟨_, List.getElem?_eq_getElem hlength⟩
    have hentry := State.sweptTo_entry hm
    have hhere : (s.sweptTo m).sweepBare (s.sweptTo m).eng.sweep.entry := by
      rw [hentry]
      exact State.sweptTo_sweepBare hm (hbare m hm (Nat.lt_succ_self m))
    have hfuel : fuel + (m + 1 - s.eng.sweep.entry) = fuel + 1 + (m - s.eng.sweep.entry) := by omega
    have hnext : State.sweptTo s (m + 1) =
        { s.sweptTo m with
          eng.sweep := ⟨(s.sweptTo m).eng.sweep.entry + 1, 0⟩
          mgmt := (s.sweptTo m).visitEnd (s.sweptTo m).mgmt n } := by
      rw [State.sweptTo, if_pos (Nat.lt_succ_of_le hm), State.visitsEnded_succ hm hn, hentry]
      rfl
    rw [hfuel, ih (by omega) fun k hk hkm => hbare k hk (by omega),
      State.moveSweep_passes (by rw [hentry]; exact hn) hhere, hnext]

theorem State.sweptOut_eq_sweptTo (s : State) : s.sweptOut = s.sweptTo s.bankEntries.length := rfl

/-- With no entry left that holds a tile the sweep walk passes the last entry (R61). -/
theorem State.moveSweep_sweptOut {s : State} (hbare : ∀ k, s.eng.sweep.entry ≤ k → s.sweepBare k) :
    s.moveSweep (s.bankEntries.length + 1) = s.sweptOut := by
  rw [State.sweptOut_eq_sweptTo]
  rcases Nat.le_total s.eng.sweep.entry s.bankEntries.length with hbefore | hafter
  · have hfuel : s.bankEntries.length + 1
        = (s.eng.sweep.entry + 1) + (s.bankEntries.length - s.eng.sweep.entry) := by omega
    rw [hfuel, State.moveSweep_sweptTo hbefore (Nat.le_refl _) fun k hk _ => hbare k hk]
    exact State.moveSweep_done (State.sweptTo_entry hbefore).ge
  · rw [State.sweptTo_of_le hafter]
    exact State.moveSweep_done hafter

theorem State.sweptOut_done (s : State) : s.sweptOut.bankEntries.length ≤ s.sweptOut.eng.sweep.entry := by
  rw [State.sweptOut_eq_sweptTo]
  rcases Nat.le_total s.eng.sweep.entry s.bankEntries.length with hbefore | hafter
  · exact (State.sweptTo_entry hbefore).ge
  · rw [State.sweptTo_of_le hafter]
    exact hafter

end Sys2Proof.Machine
end

section
/-! SUPPORT. Rules of the pass end in SWEEP (R62, R84 to R88): when it comes, what the decision settles and what state it names. -/

namespace Sys2Proof.Machine

/-- In SWEEP and MIRROR, with no tile left to offer and no demand, the walks move past the last entry. -/
theorem State.moveWalks_sweptOut {s : State} (hstate : s.camp.state = .sweep ∨ s.camp.state = .mirror)
    (hmay : s.mayBegin = true) (hdemands : s.eng.demandQueue = [])
    (hbare : ∀ m, s.eng.sweep.entry ≤ m → s.sweepBare m) : s.moveWalks = s.sweptOut := by
  rw [State.moveWalks_passing hstate, if_pos ⟨hmay, hdemands⟩, State.moveSweep_sweptOut hbare]

/-- A pass that runs out ends as it does from the walk past the last entry (R61, R84). -/
theorem exec_passEnd_runsOut {s : State} (hrole : s.mgmt.role = .sender)
    (hstate : s.camp.state = .sweep ∨ s.camp.state = .mirror) (h : s.passRunsOut) :
    exec .passEnd s = exec .passEnd s.sweptOut := by
  obtain ⟨hempty, hmay, hdemands, hbare⟩ := h
  have hexec : ∀ u, exec .passEnd u = execPassEnd u := fun _ => rfl
  have hmoves : s.moveWalks = s.sweptOut := State.moveWalks_sweptOut hstate hmay hdemands hbare
  have hstays : s.sweptOut.moveWalks = s.sweptOut := State.moveWalks_done (by exact hstate) s.sweptOut_done
  have hover : s.sweptOut.passOver = true := (State.passOver_iff _).mpr ⟨s.sweptOut_done, hempty⟩
  have hsender : s.sweptOut.mgmt.role = .sender := (s.visitsEnded_inputs _).1.trans hrole
  have hcamp : s.sweptOut.camp = s.camp := rfl
  rw [hexec, hexec]
  rcases hstate with h | h <;> simp only [execPassEnd, hmoves, hstays, hover, hrole, hsender, hcamp, h,
    decide_true, Bool.and_self, if_true]

theorem exec_passEnd_sweep {s : State} (hrole : s.mgmt.role = .sender) (hstate : s.camp.state = .sweep)
    (hempty : s.eng.inFlight = []) (hdone : s.bankEntries.length ≤ s.eng.sweep.entry) :
    exec .passEnd s = .next s.endSweep := by
  have hexec : exec .passEnd s = execPassEnd s := rfl
  have hover : s.passOver = true := s.passOver_iff.mpr ⟨hdone, hempty⟩
  simp only [hexec, execPassEnd, State.moveWalks_done (.inl hstate) hdone, hover, hrole, hstate, decide_true,
    Bool.and_self, if_true]

/-! ### The ratios (R85, R86) -/

theorem passRatio_cases (k w : Nat) : (k = 0 → w = 0 → passRatio k w = 0) ∧ (k = 0 → 0 < w → passRatio k w = 1023)
    ∧ (0 < k → passRatio k w = min 1023 (256 * w / k)) := by
  unfold passRatio
  refine ⟨fun hk hw => ?_, fun hk hw => ?_, fun hk => ?_⟩
  · rw [if_pos hk, if_pos hw]
  · rw [if_pos hk, if_neg hw.ne']
    rfl
  · rw [if_neg hk.ne']
    rfl

/-! ### The decision (R87, R88) -/

theorem NonConvergence.outcome_eq (c : NonConvergence) :
    c.outcome = if c = .forceMirror then PassOutcome.forced else .notConverged := by
  cases c <;> rfl

/-- The items of R87 and R88 as conditions on the sample, the settings and the share. -/
theorem decideSweep_eq (c : Settings) (v : Convergence) (pass r sm : Nat) :
    let limit := c.passLimit ≠ 0 ∧ c.passLimit ≤ pass
    let stalled := 2 ≤ pass ∧ c.stallRatio ≤ sm
    let raise := v.share < c.ceiling ∧ 0 < c.step
    let boosts := ¬ (r ≤ c.mirrorThreshold ∨ limit) ∧ stalled ∧ raise
    let acts := r > c.mirrorThreshold ∧ (limit ∨ stalled ∧ ¬ raise ∧ 3 ≤ v.flat + 1)
    decideSweep c v pass r sm =
      { outcome := if r ≤ c.mirrorThreshold then .mirror
          else if acts then (if c.nonConvergence = .forceMirror then .forced else .notConverged)
          else if boosts then .boost else if stalled then .flat else .continues
        share := if boosts then min (v.share + c.step) c.ceiling else v.share
        boost := v.boost || decide boosts
        flat := if r ≤ c.mirrorThreshold ∨ limit then v.flat else if stalled ∧ ¬ raise then v.flat + 1 else 0 } := by
  intro limit stalled raise boosts acts
  have hlimit : limitReached c pass = decide limit := rfl
  have hstalled : trendStalled c pass sm = decide stalled := rfl
  have hraise : canBoost c v.share = decide raise := rfl
  unfold decideSweep stallStep
  rw [hlimit, hstalled, hraise, NonConvergence.outcome_eq]
  by_cases hlow : r ≤ c.mirrorThreshold
  · simp [hlow, boosts]
  have hhigh : r > c.mirrorThreshold := Nat.lt_of_not_le hlow
  by_cases hl : limit
  · simp [hlow, hhigh, hl, boosts, acts]
  by_cases hs : stalled
  · by_cases hr : raise
    · simp [hlow, hl, hs, hr, boosts, acts]
    · by_cases hflat : 3 ≤ v.flat + 1 <;> simp [hlow, hhigh, hl, hs, hr, hflat, boosts, acts]
  · simp [hlow, hl, hs, boosts, acts]

/-! ### The state the decision names (R62, R87) -/

theorem State.followSweep_mirror {s : State} {o : PassOutcome} (h : o = .mirror ∨ o = .forced) :
    s.followSweep o = s.beginPass .mirror := by
  rcases h with rfl | rfl <;> rfl

theorem State.followSweep_settle {s : State} {o : PassOutcome} (h : o ∈ [PassOutcome.continues, .boost, .flat]) :
    s.followSweep o = s.enterSettle := by
  cases o with
  | continues | boost | flat => rfl
  | _ => simp at h

/-- SETTLE is entered with its delay running, or the next pass begins at once (R62). -/
theorem State.enterSettle_eq (s : State) : s.enterSettle =
    if s.cfg.settleDelay = 0 then (s.inState .settle).beginPass .sweep
    else { s.inState .settle with camp.settle := some (s.cfg.settleDelay * 1000) } := by
  rw [State.enterSettle, State.enter_eq]
  rfl

end Sys2Proof.Machine

/-! PROOFS. The pass end in SWEEP (R61, R62, R84 to R88, R92): O42. -/

namespace Sys2Proof.Proofs
open Sys2Proof.Machine

/-- Settles O42: a pass that runs out ends from the walk past the last entry; one that has ended is sampled, and the state that
R87's decision names is entered from the sampled state. -/
theorem passEndInSweep : Obligations.PassEndInSweep := by
  intro s hrole hstate
  refine ⟨exec_passEnd_goesOn hstate, exec_passEnd_runsOut hrole hstate, fun hsweep hempty hdone => ?_⟩
  intro r k w
  obtain ⟨hidle, hwrites, hratio⟩ := passRatio_cases k w
  refine ⟨passRatio k w, smooth s.conv.s s.conv.sMark (passRatio k w), s.endSweep,
    exec_passEnd_sweep hrole hsweep hempty hdone, hidle, hwrites, hratio, fun hmark => ?_, fun hmark => ?_, ?_⟩
  · simp [smooth, hmark]
  · simp [smooth, hmark]
  intro limit stalled raise flat boosts share acts outcome sampled
  have hend : s.endSweep = sampled.followSweep outcome := by
    have hdecision : decideSweep s.cfg s.conv s.camp.passNumber s.countD
        (smooth s.conv.s s.conv.sMark (passRatio s.conv.k s.conv.w)) =
          ⟨outcome, share, s.conv.boost || decide boosts, flat⟩ := decideSweep_eq s.cfg s.conv s.camp.passNumber r _
    rw [State.endSweep, hdecision]
    rfl
  rw [hend]
  refine ⟨fun hmirror => ?_, fun hends => ?_, fun hsettles => ?_⟩
  · rw [State.followSweep_mirror hmirror]
    exact sampled.beginPass_begun .mirror hrole (by decide) (by decide)
  · rw [hends]
    exact sampled.close_eq .notConverged
  · rw [State.followSweep_settle hsettles, State.enterSettle_eq]
    refine ⟨fun hdelay => if_neg hdelay.ne', fun hdelay => ?_⟩
    rw [if_pos (show sampled.cfg.settleDelay = 0 from hdelay)]
    exact (sampled.inState .settle).beginPass_begun .sweep hrole (by decide) (by decide)

end Sys2Proof.Proofs
end

section
/-! SUPPORT. Rules of the arbiter on the sender (R13, R14, R94 to R103): which requester a grant goes to, what a grant to the board
and one to COPY leave, and when COPY's request is withdrawn. -/

namespace Sys2Proof.Machine

/-! ### Before the choice -/

theorem State.moveSweep_role (fuel : Nat) (s : State) : (s.moveSweep fuel).mgmt.role = s.mgmt.role := by
  induction fuel generalizing s with
  | zero => rfl
  | succ fuel ih =>
    unfold State.moveSweep
    split
    · rfl
    · split
      · exact ih s.nextEntry
      · split
        · rfl
        · rename_i r _ _ _
          refine (ih (s.endVisit r).nextEntry).trans ?_
          simp only [State.nextEntry_mgmt, State.endVisit]
          split_ifs <;> rfl

theorem State.askAudit_mgmt (s : State) : s.askAudit.mgmt = s.mgmt := by rw [s.askAudit_frame]

theorem State.moveWalks_role (s : State) : s.moveWalks.mgmt.role = s.mgmt.role := by
  unfold State.moveWalks
  split
  · split
    · exact s.moveSweep_role _
    · exact s.moveSweep_role _
    · rw [s.askAudit_mgmt]
    · rfl
  · rfl

theorem State.testHead_role (s : State) : s.testHead.mgmt.role = s.mgmt.role := by
  unfold State.testHead
  split_ifs <;> rfl

/-- The state in which the arbiter chooses: the head tested and the walks moved. -/
def State.choosing (s : State) : State := s.testHead.moveWalks

theorem State.choosing_role (s : State) : s.choosing.mgmt.role = s.mgmt.role :=
  s.testHead.moveWalks_role.trans s.testHead_role

theorem exec_arbiterGrant (s : State) : exec .arbiterGrant s = .next s.choosing.arbitrate := rfl

/-- With an empty pass-through queue there is no head to keep back. -/
theorem State.testHead_of_empty {s : State} (h : s.mem.queue = []) : s.testHead = s := by
  have hkept : s.keptBack = false := by simp [State.keptBack, h]
  simp [State.testHead, hkept]

theorem State.passWaits_of_empty {s : State} (h : s.mem.queue = []) : s.passWaits = false := by
  simp [State.passWaits, h]

/-! ### The choice on the sender (R13, R14) -/

section
variable {s : State} (hrole : s.mgmt.role = .sender)
include hrole

theorem State.internalWaits_sender : s.internalWaits = s.copyWaits := by
  simp [State.internalWaits, State.applyWaits, State.fillWaits, hrole]

theorem State.grantInternal_sender : s.grantInternal = s.grantCopy := by
  have happly : s.applyWaits = false := by simp [State.applyWaits, hrole]
  have hfill : s.fillWaits = false := by simp [State.fillWaits, hrole]
  unfold State.grantInternal
  split
  · rw [happly]; rfl
  · rw [hfill]; rfl
  · rfl

theorem State.arbitrate_sender : s.arbitrate =
    if s.copyWaits = true ∧ s.pairHold = false ∧ (s.passWaits = true → 0 < s.creditNow) then
      if s.grantCopy.2 then s.grantCopy.1.countGrant (if s.passWaits then s.creditNow - 1 else s.creditNow)
      else if s.grantCopy.1.passWaits then s.grantCopy.1.grantPass.countGrant s.creditNow
      else s.grantCopy.1
    else if s.passWaits then s.grantPass.countGrant s.creditNow
    else s := by
  have hcopy : (s.copyWaits && !s.pairHold && (!s.passWaits || decide (0 < s.creditNow))) = true
      ↔ s.copyWaits = true ∧ s.pairHold = false ∧ (s.passWaits = true → 0 < s.creditNow) := by
    cases s.passWaits <;> simp [and_assoc]
  rw [State.arbitrate, State.internalWaits_sender hrole, State.grantInternal_sender hrole]
  simp only [hcopy]

/-- The board is granted where COPY does not wait, a pair hold stands, or the credit is spent. -/
theorem State.arbitrate_pass (hpass : s.passWaits = true)
    (h : s.copyWaits = false ∨ s.pairHold = true ∨ s.creditNow = 0) :
    s.arbitrate = s.grantPass.countGrant s.creditNow := by
  rw [State.arbitrate_sender hrole, if_neg, if_pos hpass]
  rintro ⟨hcopy, hhold, hcredit⟩
  rcases h with h | h | h
  · exact Bool.false_ne_true (h.symm.trans hcopy)
  · exact Bool.false_ne_true (hhold.symm.trans h)
  · exact (hcredit hpass).ne' h

theorem State.arbitrate_copy {t : State} (hcopy : s.copyWaits = true) (hhold : s.pairHold = false)
    (hcredit : s.passWaits = true → 0 < s.creditNow) (hgrant : s.grantCopy = (t, true)) :
    s.arbitrate = t.countGrant (if s.passWaits then s.creditNow - 1 else s.creditNow) := by
  rw [State.arbitrate_sender hrole, if_pos ⟨hcopy, hhold, hcredit⟩, hgrant]
  rfl

/-- Where COPY's request is withdrawn the choice is made as if it had not waited. -/
theorem State.arbitrate_withdrawn {t : State} (hcopy : s.copyWaits = true) (hhold : s.pairHold = false)
    (hcredit : s.passWaits = true → 0 < s.creditNow) (hgrant : s.grantCopy = (t, false)) :
    s.arbitrate = if t.passWaits then t.grantPass.countGrant s.creditNow else t := by
  rw [State.arbitrate_sender hrole, if_pos ⟨hcopy, hhold, hcredit⟩, hgrant]
  rfl

theorem State.arbitrate_idle (hpass : s.passWaits = false) (h : s.copyWaits = false ∨ s.pairHold = true) :
    s.arbitrate = s := by
  rw [State.arbitrate_sender hrole, if_neg, hpass]
  · rfl
  · rintro ⟨hcopy, hhold, -⟩
    rcases h with h | h
    · exact Bool.false_ne_true (h.symm.trans hcopy)
    · exact Bool.false_ne_true (hhold.symm.trans h)

end

/-! ### The grant to the board (R7, R11) -/

theorem State.trackMirroring_mem (s : State) (x : Transfer) : (s.trackMirroring x).mem = s.mem := by
  simp only [State.trackMirroring]
  split_ifs
  · exact (s.markDirty_setKept _).mem
  · exact (s.markDirty_setKept _).mem
  · rfl
  · rfl
  · exact (State.markDirty_setKept _ _).mem

/-- The tracking effect of a write leaves the memory path alone (R45). -/
theorem State.track_mem (s : State) (x : Transfer) : (s.track x).mem = s.mem := by
  simp only [State.track]
  split_ifs
  · cases s.category with
    | untracked => rfl
    | dirtying => exact (s.markDirty_setKept _).mem
    | mirroring => exact s.trackMirroring_mem x
  · rfl

theorem State.grantPass_passGranted (s : State) (credit : Nat) :
    s.passGranted (s.grantPass.countGrant credit) credit := by
  intro x rest hqueue
  have hmem : (State.track { s with mem.queue := rest, mon.stall := .stopped } x).mem = { s.mem with queue := rest } :=
    State.track_mem _ x
  rw [State.countGrant_mem, State.grantPass]
  simp only [hqueue]
  cases x.kind with
  | lockRead => simp [State.tagRecord, hmem]
  | lockWrite => simp [hmem]
  | read | write | readLine | writeLine => simp [hmem]

/-- What a grant to the board leaves is said of the memory path alone. -/
theorem State.passGranted_of_mem {s u t : State} {credit : Nat} (hmem : u.mem = s.mem) (h : u.passGranted t credit) :
    s.passGranted t credit := by
  unfold State.passGranted at h ⊢
  rwa [hmem] at h

/-! ### The next read of the tiles in flight (R102, R103) -/

/-- Every line of an in-flight entry has been issued and none waits to be read again. -/
def InFlight.Spent (e : InFlight) : Prop := e.waiting = [] ∧ 512 ≤ e.issued

/-- The next read of one in-flight entry: its first line waiting to be read again, else its next line. -/
def InFlight.nextRead (e : InFlight) : Option (Nat × Nat × Bool) :=
  match e.waiting with
  | l :: _ => some (e.tile, l, true)
  | [] => if e.issued < 512 then some (e.tile, e.issued, false) else none

theorem InFlight.nextRead_eq_none_iff (e : InFlight) : e.nextRead = none ↔ e.Spent := by
  unfold InFlight.nextRead InFlight.Spent
  cases e.waiting <;> simp

theorem State.nextRead_eq (s : State) : s.nextRead = s.eng.inFlight.findSome? InFlight.nextRead := rfl

theorem State.nextRead_eq_none_iff (s : State) : s.nextRead = none ↔ ∀ e ∈ s.eng.inFlight, e.Spent := by
  rw [State.nextRead_eq, List.findSome?_eq_none_iff]
  simp only [InFlight.nextRead_eq_none_iff]

/-- The entry begun earliest that is not spent has the next read. -/
theorem State.nextRead_of_split {s : State} {before after : List InFlight} {e : InFlight}
    (hsplit : s.eng.inFlight = before ++ e :: after) (hbefore : ∀ f ∈ before, f.Spent) (he : ¬ e.Spent) :
    s.nextRead = e.nextRead := by
  have hnone : before.findSome? InFlight.nextRead = none :=
    List.findSome?_eq_none_iff.mpr fun f hf => f.nextRead_eq_none_iff.mpr (hbefore f hf)
  obtain ⟨r, hr⟩ := Option.ne_none_iff_exists'.mp (mt e.nextRead_eq_none_iff.mp he)
  rw [State.nextRead_eq, hsplit, List.findSome?_append, hnone, Option.none_or, List.findSome?_cons, hr]

/-- The grant of a further line read is a grant to COPY (R102, R103). -/
theorem State.grantRead_copyGranted {s : State} {tile line : Nat} {again : Bool} (credit : Nat)
    (hread : s.nextRead = some (tile, line, again)) :
    s.copyGranted ((s.grantRead tile line again).countGrant credit) credit := by
  refine ⟨tile, line, rfl, fun before e after hsplit hbefore he => ?_, fun hspent => ?_⟩
  · have hnext := (State.nextRead_of_split hsplit hbefore he).symm.trans hread
    unfold InFlight.nextRead at hnext
    cases hwaiting : e.waiting with
    | cons l rest =>
      simp only [hwaiting, Option.some.injEq, Prod.mk.injEq] at hnext
      obtain ⟨rfl, rfl, rfl⟩ := hnext
      exact ⟨rfl, by simp, by simp, rfl⟩
    | nil =>
      simp only [hwaiting] at hnext
      split_ifs at hnext
      obtain ⟨rfl, rfl, rfl⟩ : e.tile = tile ∧ e.issued = line ∧ false = again := by simpa using hnext
      exact ⟨rfl, by simp, fun _ => rfl, rfl⟩
  · rw [(s.nextRead_eq_none_iff).mpr hspent] at hread
    exact absurd hread (by simp)

/-! ### A tile begun (R100, R101) -/

/-- A tile is in flight and its line 0 issued. -/
def State.TileBegun (s t : State) (tile : Nat) (kind : CopyKind) : Prop :=
  t.eng.inFlight = s.eng.inFlight ++ [InFlight.new tile kind] ∧ t.mem =
    { s.mem with
      outstanding := s.mem.outstanding ++ [⟨s.mem.nextId, .copy tile 0, .readLine, lineAddr tile 0, 0, 0⟩]
      nextId := s.mem.nextId + 1 }

/-- A COPY entry begun, before any fall from INSYNC (R31, R100). -/
def State.entryBegun (s : State) (tile : Nat) : State :=
  { s with
    mem := { s.mem with
      outstanding := s.mem.outstanding ++ [⟨s.mem.nextId, .copy tile 0, .readLine, lineAddr tile 0, 0, 0⟩]
      nextId := s.mem.nextId + 1 }
    map := clearBit s.map tile
    eng.inFlight := s.eng.inFlight ++ [InFlight.new tile .copy]
    txq := s.txq.append (.tile tile) }

theorem State.beginCopy_eq (s : State) (tile : Nat) : s.beginCopy tile =
    if s.camp.state = .insync then (s.entryBegun tile).leaveInsync else s.entryBegun tile := rfl

theorem State.beginCopy_begun {s : State} (hrole : s.mgmt.role = .sender) (tile : Nat) :
    s.TileBegun (s.beginCopy tile) tile .copy := by
  rw [State.beginCopy_eq]
  split_ifs with hstate
  · have hkept := State.leaveInsync_setKept (s := s.entryBegun tile) hrole hstate
    exact ⟨hkept.inFlight, hkept.mem⟩
  · exact ⟨rfl, rfl⟩

theorem State.beginAudit_begun (s : State) (tile : Nat) : s.TileBegun (s.beginAudit tile) tile .audit := ⟨rfl, rfl⟩

/-- After its beginning of a tile the sweep walk has changed its position and, through REGION_END, the event line and tally. -/
theorem State.sweepPast_frame (s : State) (tile : Nat) : s.sweepPast tile =
    { s with eng.sweep := (s.sweepPast tile).eng.sweep, mgmt := (s.sweepPast tile).mgmt } := by
  unfold State.sweepPast
  split
  · rename_i r _
    split_ifs
    · rfl
    · rw [s.endVisit_eq r]
      rfl
  · rfl

theorem State.sweepPast_role (s : State) (tile : Nat) : (s.sweepPast tile).mgmt.role = s.mgmt.role := by
  unfold State.sweepPast
  split
  · simp only [State.endVisit]
    split_ifs <;> rfl
  · rfl

theorem State.auditPast_frame (s : State) (tile : Nat) : s.auditPast tile =
    { s with aud.walk := (s.auditPast tile).aud.walk, aud.walkDone := (s.auditPast tile).aud.walkDone } := by
  unfold State.auditPast
  split
  · split_ifs <;> rfl
  · rfl

/-- A walk or scan that offers a tile begins it. -/
theorem State.beginWalk_begun {s t : State} (hrole : s.mgmt.role = .sender) (h : s.beginWalk = some t) :
    ∃ tile kind, s.TileBegun t tile kind := by
  have copied : ∀ {u : State} {tile : Nat}, u.beginCopy tile = t → u.mgmt.role = .sender → u.mem = s.mem →
      u.eng.inFlight = s.eng.inFlight → ∃ tile kind, s.TileBegun t tile kind := by
    rintro u tile rfl hsender hmem hflying
    obtain ⟨hinFlight, hissued⟩ := State.beginCopy_begun hsender tile
    exact ⟨tile, .copy, by rw [hinFlight, hflying], by rw [hissued, hmem]⟩
  have swept : ∀ tile, (s.sweepPast tile).beginCopy tile = t → ∃ tile kind, s.TileBegun t tile kind := by
    intro tile htile
    refine copied htile ((s.sweepPast_role tile).trans hrole) ?_ ?_ <;> rw [s.sweepPast_frame]
  unfold State.beginWalk at h
  split at h
  · obtain ⟨tile, -, htile⟩ := Option.map_eq_some_iff.mp h
    exact swept tile htile
  · obtain ⟨tile, -, htile⟩ := Option.map_eq_some_iff.mp h
    exact swept tile htile
  · split at h
    · exact copied (Option.some.inj h) hrole rfl rfl
    · obtain ⟨tile, -, rfl⟩ := Option.map_eq_some_iff.mp h
      refine ⟨tile, .audit, ?_⟩
      have hbegun := (s.auditPast tile).beginAudit_begun tile
      rw [s.auditPast_frame] at hbegun ⊢
      exact hbegun
  · split at h
    · exact copied (Option.some.inj h) hrole rfl rfl
    · exact absurd h (by simp)
  · split at h
    · exact copied (Option.some.inj h) hrole rfl rfl
    · exact absurd h (by simp)
  · exact absurd h (by simp)

/-- With no further line to read, the beginning of a tile is a grant to COPY (R94). -/
theorem State.TileBegun.copyGranted {s t : State} {tile : Nat} {kind : CopyKind} (h : s.TileBegun t tile kind)
    (hread : s.nextRead = none) (credit : Nat) : s.copyGranted (t.countGrant credit) credit := by
  obtain ⟨hinFlight, hmem⟩ := h
  have hspent := (s.nextRead_eq_none_iff).mp hread
  refine ⟨tile, 0, ?_, fun before e after hsplit _ he => ?_, fun _ => ⟨rfl, kind, hinFlight⟩⟩
  · rw [State.countGrant_mem, hmem]
    rfl
  · exact absurd (hspent e (by rw [hsplit]; simp)) he

/-! ### The grant of a first line read (R96) -/

theorem State.takeDemand_of_split {s : State} {dropped rest : List Nat} {d : Nat}
    (hdropped : ∀ u ∈ dropped, s.demandable u = false) (hd : s.demandable d = true) :
    s.takeDemand (dropped ++ d :: rest) = (some d, rest) := by
  induction dropped with
  | nil => simp [State.takeDemand, hd]
  | cons u dropped ih =>
    obtain ⟨hu, hothers⟩ := List.forall_mem_cons.mp hdropped
    rw [List.cons_append, State.takeDemand, hu]
    exact ih hothers

theorem State.takeDemand_none {s : State} {l : List Nat} (h : ∀ u ∈ l, s.demandable u = false) :
    s.takeDemand l = (none, []) := by
  induction l with
  | nil => rfl
  | cons u l ih =>
    obtain ⟨hu, hothers⟩ := List.forall_mem_cons.mp h
    rw [State.takeDemand, hu]
    exact ih hothers

/-- The first demand that may be begun, with the demands before it. -/
theorem exists_first_of_demandable {s : State} {l : List Nat} (h : ∃ d ∈ l, s.demandable d = true) :
    ∃ dropped d rest, l = dropped ++ d :: rest ∧ (∀ u ∈ dropped, s.demandable u = false) ∧ s.demandable d = true := by
  obtain ⟨d, hd⟩ := Option.isSome_iff_exists.mp (List.find?_isSome.mpr h)
  obtain ⟨hmay, dropped, rest, hsplit, hdropped⟩ := List.find?_eq_some_iff_append.mp hd
  exact ⟨dropped, d, rest, hsplit, fun u hu => by simpa using hdropped u hu, hmay⟩

/-- The sender with every demand discarded and, in AUDIT, the audit walk asked (R96, R169). -/
def State.demandsDropped (s : State) : State := State.askAudit { s with eng.demandQueue := [] }

theorem State.demandsDropped_frame (s : State) : s.demandsDropped =
    { s with
      eng.demandQueue := []
      aud.walk := s.demandsDropped.aud.walk
      aud.walkDone := s.demandsDropped.aud.walkDone } :=
  State.askAudit_frame { s with eng.demandQueue := [] }

theorem State.grantFirst_demand {s : State} {dropped rest : List Nat} {d : Nat}
    (hqueue : s.eng.demandQueue = dropped ++ d :: rest) (hdropped : ∀ u ∈ dropped, s.demandable u = false)
    (hd : s.demandable d = true) :
    s.grantFirst = (State.beginCopy { s with eng.demandQueue := rest } d, true) := by
  rw [State.grantFirst, hqueue, State.takeDemand_of_split hdropped hd]

theorem State.grantFirst_walk {s t : State} (hnone : ∀ u ∈ s.eng.demandQueue, s.demandable u = false)
    (hwalk : s.demandsDropped.beginWalk = some t) : s.grantFirst = (t, true) := by
  rw [State.grantFirst, State.takeDemand_none hnone]
  simp only [show (State.askAudit { s with eng.demandQueue := [] }).beginWalk = some t from hwalk]

theorem State.grantFirst_none {s : State} (hnone : ∀ u ∈ s.eng.demandQueue, s.demandable u = false)
    (hwalk : s.demandsDropped.beginWalk = none) : s.grantFirst = (s.demandsDropped, false) := by
  rw [State.grantFirst, State.takeDemand_none hnone]
  simp only [show (State.askAudit { s with eng.demandQueue := [] }).beginWalk = none from hwalk]
  rfl

theorem State.grantCopy_first {s : State} (hread : s.nextRead = none) : s.grantCopy = s.grantFirst := by
  rw [State.grantCopy, hread]

/-- COPY has a read to issue at the grant: a further line, or line 0 of a demand or of a tile a walk offers. -/
def State.HasGrant (s : State) : Prop :=
  s.nextRead.isSome = true ∨ (∃ d ∈ s.eng.demandQueue, s.demandable d = true) ∨ s.demandsDropped.beginWalk.isSome = true

theorem State.grantCopy_granted {s : State} (hrole : s.mgmt.role = .sender) (h : s.HasGrant) :
    ∃ t, s.grantCopy = (t, true) ∧ ∀ credit, s.copyGranted (t.countGrant credit) credit := by
  cases hread : s.nextRead with
  | some r =>
    obtain ⟨tile, line, again⟩ := r
    exact ⟨s.grantRead tile line again, by rw [State.grantCopy, hread],
      fun credit => State.grantRead_copyGranted credit hread⟩
  | none =>
    rw [State.grantCopy_first hread]
    have hfirst : (∃ d ∈ s.eng.demandQueue, s.demandable d = true) ∨ s.demandsDropped.beginWalk.isSome = true :=
      h.resolve_left (by simp [hread])
    by_cases hdemand : ∃ d ∈ s.eng.demandQueue, s.demandable d = true
    · obtain ⟨dropped, d, rest, hqueue, hdropped, hd⟩ := exists_first_of_demandable hdemand
      have hbegun : s.TileBegun (State.beginCopy { s with eng.demandQueue := rest } d) d .copy :=
        State.beginCopy_begun (s := { s with eng.demandQueue := rest }) hrole d
      exact ⟨_, State.grantFirst_demand hqueue hdropped hd, hbegun.copyGranted hread⟩
    · obtain ⟨t, ht⟩ := Option.isSome_iff_exists.mp (hfirst.resolve_left hdemand)
      have hsender : s.demandsDropped.mgmt.role = .sender := by rw [s.demandsDropped_frame, hrole]
      obtain ⟨tile, kind, hbegun⟩ := State.beginWalk_begun hsender ht
      rw [s.demandsDropped_frame] at hbegun
      have hbegun : s.TileBegun t tile kind := hbegun
      exact ⟨t, State.grantFirst_walk (by simpa using hdemand) ht, hbegun.copyGranted hread⟩

/-- A request of COPY that finds nothing to issue at the grant is withdrawn, its demands discarded (R94). -/
theorem State.grantCopy_withdrawn {s : State} (h : ¬ s.HasGrant) : s.grantCopy = (s.demandsDropped, false) := by
  simp only [State.HasGrant, not_or, Bool.not_eq_true, Option.isSome_eq_false_iff, Option.isNone_iff_eq_none] at h
  obtain ⟨hread, hdemand, hwalk⟩ := h
  rw [State.grantCopy_first hread]
  exact State.grantFirst_none (by simpa using hdemand) hwalk

theorem State.demandsDropped_passWaits (s : State) : s.demandsDropped.passWaits = s.passWaits := by
  rw [s.demandsDropped_frame]
  rfl

theorem State.demandsDropped_mem (s : State) : s.demandsDropped.mem = s.mem := by rw [s.demandsDropped_frame]

end Sys2Proof.Machine

/-! PROOFS. The choice of the arbiter on the sender (R13, R14, R94, R96, R102, R103): O21. -/

namespace Sys2Proof.Proofs
open Sys2Proof.Machine

/-- Settles O21: with the head tested and the walks moved, the pair holds and the credit say which requester is granted, and a
request of COPY that has nothing to issue leaves the choice to the board. -/
theorem arbiterChoosesByCredit : Obligations.ArbiterChoosesByCredit := by
  intro s hrole s0 credit asked begins
  have hsender : s0.mgmt.role = .sender := s.choosing_role.trans hrole
  refine ⟨s0.arbitrate, exec_arbiterGrant s, fun hpass h => ?_, fun hcopy hhold hbegins hpass => ?_,
    fun hcopy hhold hbegins hpass hcredit => ?_, fun hcopy hhold hnone hpass => ?_, fun hcopy hhold hnone hpass => ?_,
    State.arbitrate_idle hsender⟩
  · rw [State.arbitrate_pass hsender hpass h]
    exact s0.grantPass_passGranted credit
  · obtain ⟨t, hgrant, hgranted⟩ := State.grantCopy_granted hsender hbegins
    rw [State.arbitrate_copy hsender hcopy hhold (by simp [hpass]) hgrant, hpass]
    exact hgranted credit
  · obtain ⟨t, hgrant, hgranted⟩ := State.grantCopy_granted hsender hbegins
    rw [State.arbitrate_copy hsender hcopy hhold (fun _ => hcredit) hgrant, hpass]
    exact hgranted (credit - 1)
  · by_cases hcredit : credit = 0
    · rw [State.arbitrate_pass hsender hpass (.inr (.inr hcredit))]
      exact s0.grantPass_passGranted credit
    · rw [State.arbitrate_withdrawn hsender hcopy hhold (fun _ => Nat.pos_of_ne_zero hcredit)
        (State.grantCopy_withdrawn hnone), s0.demandsDropped_passWaits, if_pos hpass]
      exact State.passGranted_of_mem s0.demandsDropped_mem (s0.demandsDropped.grantPass_passGranted credit)
  · rw [State.arbitrate_withdrawn hsender hcopy hhold (by simp [hpass]) (State.grantCopy_withdrawn hnone),
      s0.demandsDropped_passWaits, hpass]
    rfl

end Sys2Proof.Proofs
end

section
/-! SUPPORT. Rules of the grant that begins a tile (R94 to R101, R169): what the arbiter leaves where nothing but COPY's first
line read can be granted, and where the scans and walks of each state find their tile. -/

namespace Sys2Proof.Machine

/-! ### A grant that only a first line read can take (R94) -/

/-- The board and the reads of the tiles in flight have nothing to grant, and a tile may be begun. -/
structure State.BeginsNext (s : State) : Prop where
  role : s.mgmt.role = .sender
  queue : s.mem.queue = []
  hold : s.pairHold = false
  room : s.mem.internal < 16
  read : s.nextRead = none
  may : s.mayBegin = true

section
variable {s : State} (h : s.BeginsNext)
include h

theorem State.BeginsNext.copyWaits (hoffer : s.eng.demandQueue ≠ [] ∨ s.beginWalk.isSome = true) :
    s.copyWaits = true := by
  have hroom : s.mem.internalRoom = true := decide_eq_true h.room
  have hfirst : s.firstReadReady = true := by
    rw [State.firstReadReady, h.may]
    rcases hoffer with hoffer | hoffer <;> simp [hoffer]
  simp [State.copyWaits, h.role, hroom, hfirst]

/-- With no demand and no walk or scan that offers a tile, COPY does not wait. -/
theorem State.BeginsNext.copyWaits_none (hdemands : s.eng.demandQueue = []) (hwalk : s.beginWalk = none) :
    s.copyWaits = false := by
  simp [State.copyWaits, State.firstReadReady, h.read, hdemands, hwalk]

theorem State.BeginsNext.choosing_of_demands (hdemands : s.eng.demandQueue ≠ []) : s.choosing = s := by
  rw [State.choosing, State.testHead_of_empty h.queue, State.moveWalks, if_neg (by simp [hdemands])]

theorem State.BeginsNext.arbitrate_begun {t : State} (hwaits : s.copyWaits = true) (hgrant : s.grantFirst = (t, true)) :
    s.arbitrate = t.countGrant s.creditNow := by
  have hpass := State.passWaits_of_empty h.queue
  rw [State.arbitrate_copy h.role hwaits h.hold (by simp [hpass]) ((State.grantCopy_first h.read).trans hgrant), hpass]
  rfl

/-- The first demand that may be begun is begun (R96). -/
theorem State.BeginsNext.grant_demand {dropped rest : List Nat} {d : Nat}
    (hqueue : s.eng.demandQueue = dropped ++ d :: rest) (hdropped : ∀ u ∈ dropped, s.demandable u = false)
    (hd : s.demandable d = true) : exec .arbiterGrant s
      = .next ((State.beginCopy { s with eng.demandQueue := rest } d).countGrant s.creditNow) := by
  have hdemands : s.eng.demandQueue ≠ [] := by simp [hqueue]
  rw [exec_arbiterGrant, h.choosing_of_demands hdemands,
    h.arbitrate_begun (h.copyWaits (.inl hdemands)) (State.grantFirst_demand hqueue hdropped hd)]

variable (hnone : ∀ u ∈ s.eng.demandQueue, s.demandable u = false)
  (hasked : s.eng.demandQueue = [] → s.askAudit = s)
include hnone hasked

omit h hnone in
/-- With no demand to discard and the audit walk asked already, dropping the demands changes nothing. -/
theorem State.demandsDropped_of_asked (hdemands : s.eng.demandQueue = []) : s.demandsDropped = s := by
  have hsame : { s with eng.demandQueue := [] } = s := by rw [← hdemands]
  rw [State.demandsDropped, hsame, hasked hdemands]

/-- With no demand that may be begun, the tile of the state's walk or scan is. -/
theorem State.BeginsNext.arbitrate_walk {t : State} (hwalk : s.demandsDropped.beginWalk = some t) :
    s.arbitrate = t.countGrant s.creditNow := by
  refine h.arbitrate_begun (h.copyWaits ?_) (State.grantFirst_walk hnone hwalk)
  by_cases hdemands : s.eng.demandQueue = []
  · rw [State.demandsDropped_of_asked hasked hdemands] at hwalk
    exact .inr (by rw [hwalk]; rfl)
  · exact .inl hdemands

/-- With none of either, the demands stay discarded and nothing is granted (R94). -/
theorem State.BeginsNext.arbitrate_noWalk (hwalk : s.demandsDropped.beginWalk = none) :
    s.arbitrate = s.demandsDropped := by
  have hpass := State.passWaits_of_empty h.queue
  by_cases hdemands : s.eng.demandQueue = []
  · rw [State.demandsDropped_of_asked hasked hdemands] at hwalk ⊢
    exact State.arbitrate_idle h.role hpass (.inl (h.copyWaits_none hdemands hwalk))
  · rw [State.arbitrate_withdrawn h.role (h.copyWaits (.inl hdemands)) h.hold (by simp [hpass])
      ((State.grantCopy_first h.read).trans (State.grantFirst_none hnone hwalk)), s.demandsDropped_passWaits, hpass]
    rfl

end

/-! ### The tiles the scan and the audit walk may offer (R98, R169) -/

/-- A tile the audit walk may offer: clean and not quarantined. -/
def State.auditOfferable (s : State) (tile : Nat) : Prop :=
  tile < 131072 ∧ s.bit tile = false ∧ s.isInFlight tile = false ∧ s.quarantined tile = false

theorem State.getLsbD_auditable (s : State) (u : Nat) : s.auditable.getLsbD u = true ↔ s.auditOfferable u := by
  rw [State.auditable, BitVec.getLsbD_and, BitVec.getLsbD_and, BitVec.getLsbD_not, BitVec.getLsbD_not,
    BitVec.getLsbD_not, State.getLsbD_inFlightMask, State.getLsbD_quarantineMask, State.auditOfferable, State.bit]
  by_cases hu : u < 131072 <;> simp [hu, and_assoc]

/-- A tile the dirty scan may offer: a scope COPY tile that may be offered. -/
def State.scanned (s : State) (tile : Nat) : Prop := s.scopeIs .copy tile = true ∧ s.offerable tile

theorem State.getLsbD_scanned (s : State) (u : Nat) :
    (s.eligible &&& policyMask s.scope .copy).getLsbD u = true ↔ s.scanned u := by
  rw [BitVec.getLsbD_and, getLsbD_policyMask, Bool.and_eq_true, Bool.and_eq_true, State.getLsbD_eligible,
    decide_eq_true_eq]
  have hlt : s.offerable u → u < 131072 := fun ho => BitVec.lt_of_getLsbD ho.1
  exact ⟨fun ⟨ho, _, hscope⟩ => ⟨hscope, ho⟩, fun ⟨hscope, ho⟩ => ⟨ho, hlt ho, hscope⟩⟩

theorem State.firstTile_scanned_some {s : State} {start tile : Nat} (htile : s.scanned tile) (hstart : start ≤ tile)
    (hbelow : ∀ u, start ≤ u → u < tile → ¬ s.scanned u) :
    firstTile (s.eligible &&& policyMask s.scope .copy) start = some tile := by
  simp only [firstTile_eq_some_iff, ← Bool.not_eq_true, State.getLsbD_scanned]
  exact ⟨hstart, htile, hbelow⟩

theorem State.firstTile_scanned_none {s : State} {start : Nat} (h : ∀ u, start ≤ u → ¬ s.scanned u) :
    firstTile (s.eligible &&& policyMask s.scope .copy) start = none := by
  simp only [firstTile_eq_none_iff, ← Bool.not_eq_true, State.getLsbD_scanned]
  exact h

/-- The dirty scan goes upward from its pointer, then from tile 0 (R98). -/
theorem State.scanOffer_some {s : State} {tile : Nat} (htile : s.scanned tile)
    (h : s.eng.scanPointer ≤ tile ∧ (∀ u, s.eng.scanPointer ≤ u → u < tile → ¬ s.scanned u)
      ∨ (∀ u, s.eng.scanPointer ≤ u → ¬ s.scanned u) ∧ ∀ u, u < tile → ¬ s.scanned u) : s.scanOffer = some tile := by
  rcases h with ⟨hstart, hbelow⟩ | ⟨habove, hbelow⟩
  · simp only [State.scanOffer, State.firstTile_scanned_some htile hstart hbelow]
  · simp only [State.scanOffer, State.firstTile_scanned_none habove]
    exact State.firstTile_scanned_some htile (Nat.zero_le tile) fun u _ => hbelow u

theorem State.scanOffer_none {s : State} (h : ∀ u, ¬ s.scanned u) : s.scanOffer = none := by
  simp only [State.scanOffer, State.firstTile_scanned_none fun u _ => h u]

/-! ### The audit walk (R98, R169) -/

/-- The places of the audit walk: the active bank's entries in order of first occurrence. -/
def State.auditPlaces (s : State) : List Nat := s.bankEntries.eraseDups

theorem length_eraseDups_le (l : List Nat) : l.eraseDups.length ≤ l.length := by
  match l with
  | [] => exact Nat.le_refl _
  | a :: as =>
    rw [List.eraseDups_cons, List.length_cons, List.length_cons]
    exact Nat.succ_le_succ ((length_eraseDups_le _).trans (List.length_filter_le _ as))
termination_by l.length
decreasing_by exact Nat.lt_succ_of_le (List.length_filter_le _ as)

/-- The first tile the audit walk looks at in the region of place m. -/
def State.auditStart (s : State) (m : Nat) (r : Region) : Nat :=
  r.base + if m = s.aud.walk.entry then s.aud.walk.offset else 0

/-- Place m holds no tile for the audit walk from its position on. -/
def State.AuditBare (s : State) (m : Nat) : Prop :=
  ∀ n r, s.auditPlaces[m]? = some n → s.tables.region n = some r → r.policy = .copy →
    ∀ u, s.auditStart m r ≤ u → u < r.base + r.count → ¬ s.auditOfferable u

/-- The audit walk moved on to place m. -/
def State.auditTo (s : State) (m : Nat) : State :=
  { s with aud.walk := if s.aud.walk.entry < m then ⟨m, 0⟩ else s.aud.walk }

theorem State.auditTo_of_le {s : State} {m : Nat} (h : m ≤ s.aud.walk.entry) : s.auditTo m = s := by
  rw [State.auditTo, if_neg (Nat.not_lt_of_le h)]

theorem State.auditTo_entry {s : State} {m : Nat} (hm : s.aud.walk.entry ≤ m) : (s.auditTo m).aud.walk.entry = m := by
  simp only [State.auditTo]
  split_ifs with h
  · rfl
  · omega

theorem State.auditTo_start {s : State} {m : Nat} (hm : s.aud.walk.entry ≤ m) (r : Region) :
    r.base + (s.auditTo m).aud.walk.offset = s.auditStart m r := by
  simp only [State.auditTo, State.auditStart]
  rcases hm.eq_or_lt with rfl | h
  · rw [if_neg (Nat.lt_irrefl _), if_pos rfl]
  · rw [if_pos h, if_neg h.ne']

/-- One place passed. -/
theorem State.moveAudit_passes {fuel n : Nat} {s : State} (hn : s.auditPlaces[s.aud.walk.entry]? = some n)
    (hbare : s.AuditBare s.aud.walk.entry) :
    s.moveAudit (fuel + 1) = State.moveAudit fuel { s with aud.walk := ⟨s.aud.walk.entry + 1, 0⟩ } := by
  rw [State.moveAudit]
  simp only [show s.bankEntries.eraseDups[s.aud.walk.entry]? = some n from hn]
  cases hr : s.tables.region n with
  | none => rfl
  | some r =>
    have hnone : (if r.policy = .copy then firstTile (s.auditable &&& r.mask) (r.base + s.aud.walk.offset) else none)
        = none := by
      split_ifs with hcopy
      · refine firstTile_region_none s.getLsbD_auditable fun u hu _ hhigh => hbare n r hn hr hcopy u ?_ hhigh
        rwa [State.auditStart, if_pos rfl]
      · rfl
    simp only [hnone]

/-- The audit walk passes every bare place from the one it stands in on. -/
theorem State.moveAudit_auditTo {m : Nat} {s : State} (hm : s.aud.walk.entry ≤ m) (hlength : m ≤ s.auditPlaces.length)
    (hbare : ∀ k, s.aud.walk.entry ≤ k → k < m → s.AuditBare k) (fuel : Nat) :
    s.moveAudit (fuel + (m - s.aud.walk.entry)) = (s.auditTo m).moveAudit fuel := by
  induction m, hm using Nat.le_induction generalizing fuel with
  | base => rw [State.auditTo_of_le (Nat.le_refl _), Nat.sub_self, Nat.add_zero]
  | succ m hm ih =>
    obtain ⟨n, hn⟩ : ∃ n, s.auditPlaces[m]? = some n := ⟨_, List.getElem?_eq_getElem hlength⟩
    have hentry := State.auditTo_entry hm
    have hhere : (s.auditTo m).AuditBare (s.auditTo m).aud.walk.entry := by
      intro n r hn hr hcopy u hlow
      rw [State.auditStart, if_pos rfl, State.auditTo_start hm] at hlow
      rw [hentry] at hn
      exact hbare m hm (Nat.lt_succ_self m) n r hn hr hcopy u hlow
    have hfuel : fuel + (m + 1 - s.aud.walk.entry) = fuel + 1 + (m - s.aud.walk.entry) := by omega
    have hnext : s.auditTo (m + 1) = { s.auditTo m with aud.walk := ⟨(s.auditTo m).aud.walk.entry + 1, 0⟩ } := by
      rw [State.auditTo, if_pos (Nat.lt_succ_of_le hm), hentry]
      rfl
    rw [hfuel, ih (by omega) fun k hk hkm => hbare k hk (by omega),
      State.moveAudit_passes (by rw [hentry]; exact hn) hhere, hnext]

theorem State.auditPlaces_length_le (s : State) : s.auditPlaces.length ≤ s.bankEntries.length :=
  length_eraseDups_le _

/-- The audit walk's next tile: the first clean one from its position on, in the region of place m. -/
structure State.AuditFinds (s : State) (m n tile : Nat) (r : Region) : Prop where
  entry : s.aud.walk.entry ≤ m
  place : s.auditPlaces[m]? = some n
  region : s.tables.region n = some r
  copy : r.policy = .copy
  passed : ∀ k, s.aud.walk.entry ≤ k → k < m → s.AuditBare k
  start : s.auditStart m r ≤ tile
  within : tile < r.base + r.count
  clean : s.auditOfferable tile
  first : ∀ u, s.auditStart m r ≤ u → u < tile → ¬ s.auditOfferable u

section
variable {s : State} {m n tile : Nat} {r : Region} (h : s.AuditFinds m n tile r)
include h

theorem State.AuditFinds.base : r.base ≤ tile := (Nat.le_add_right _ _).trans h.start

/-- The audit walk stops at the tile it finds. -/
theorem State.AuditFinds.moveAudit :
    s.moveAudit (s.bankEntries.length + 1) = { s with aud.walk := ⟨m, tile - r.base⟩ } := by
  obtain ⟨hm, hn, hr, hcopy, hbare, hstart, hhigh, htile, hbelow⟩ := h
  have hlength : m < s.auditPlaces.length := (List.getElem?_eq_some_iff.mp hn).1
  have hplaces := s.auditPlaces_length_le
  have hfuel : s.bankEntries.length + 1
      = s.bankEntries.length - (m - s.aud.walk.entry) + 1 + (m - s.aud.walk.entry) := by omega
  have hfound : firstTile ((s.auditTo m).auditable &&& r.mask) (r.base + (s.auditTo m).aud.walk.offset) = some tile := by
    rw [State.auditTo_start hm]
    exact firstTile_region_some s.getLsbD_auditable hstart ((Nat.le_add_right _ _).trans hstart) hhigh htile hbelow
  rw [hfuel, State.moveAudit_auditTo hm hlength.le hbare, State.moveAudit]
  simp only [State.auditTo_entry hm, show (s.auditTo m).bankEntries.eraseDups[m]? = some n from hn,
    show (s.auditTo m).tables.region n = some r from hr, hcopy, if_true, hfound]
  rfl

/-- A walk that stands on the tile it finds stays there when it is asked again. -/
theorem State.AuditFinds.stays : State.AuditFinds { s with aud.walk := ⟨m, tile - r.base⟩ } m n tile r := by
  have hstart : State.auditStart { s with aud.walk := ⟨m, tile - r.base⟩ } m r = tile := by
    rw [State.auditStart, if_pos rfl]
    exact Nat.add_sub_cancel' h.base
  refine ⟨Nat.le_refl m, h.place, h.region, h.copy, fun k hk hkm => absurd hkm (Nat.not_lt_of_le hk), hstart.le, h.within,
    h.clean, fun u hu hut => absurd hut (Nat.not_lt_of_le ?_)⟩
  rwa [hstart] at hu

end

/-- Past its last place the audit walk is done. -/
theorem State.moveAudit_end {fuel : Nat} {s : State} (h : s.auditPlaces.length ≤ s.aud.walk.entry) :
    s.moveAudit (fuel + 1) = { s with aud.walkDone := true } := by
  rw [State.moveAudit, show s.bankEntries.eraseDups[s.aud.walk.entry]? = none from List.getElem?_eq_none h]

/-- With no clean tile left the audit walk is done (R169). -/
theorem State.moveAudit_none {s : State} (hbare : ∀ k, s.aud.walk.entry ≤ k → s.AuditBare k) :
    ∃ walk, s.moveAudit (s.bankEntries.length + 1) = { s with aud.walk := walk, aud.walkDone := true }
      ∧ s.auditPlaces.length ≤ walk.entry := by
  rcases Nat.le_total s.aud.walk.entry s.auditPlaces.length with hbefore | hafter
  · have hplaces := s.auditPlaces_length_le
    have hfuel : s.bankEntries.length + 1 = s.bankEntries.length - (s.auditPlaces.length - s.aud.walk.entry) + 1
        + (s.auditPlaces.length - s.aud.walk.entry) := by omega
    have hend : (s.auditTo s.auditPlaces.length).auditPlaces.length
        ≤ (s.auditTo s.auditPlaces.length).aud.walk.entry := (State.auditTo_entry hbefore).ge
    rw [hfuel, State.moveAudit_auditTo hbefore (Nat.le_refl _) fun k hk _ => hbare k hk, State.moveAudit_end hend]
    exact ⟨_, rfl, hend⟩
  · exact ⟨s.aud.walk, State.moveAudit_end hafter, hafter⟩

/-- In AUDIT, with no tile for the dirty scan, the audit walk is asked (R98). -/
theorem State.askAudit_asked {s : State} (hstate : s.camp.state = .audit) (hscan : s.scanOffer = none) :
    s.askAudit = s.moveAudit (s.bankEntries.length + 1) := by
  simp [State.askAudit, hstate, hscan]

theorem State.askAudit_unasked {s : State} (h : s.camp.state ≠ .audit ∨ s.scanOffer ≠ none) : s.askAudit = s := by
  refine if_neg fun hall => ?_
  simp only [Bool.and_eq_true, decide_eq_true_eq, Option.isNone_iff_eq_none] at hall
  exact h.elim (· hall.1) (· hall.2)


/-- In AUDIT the walk has been asked before the choice where no demand waits, else where the last demand was dropped; asking it
again moves it no further. -/
theorem State.BeginsNext.grant_audit {s : State} (h : s.BeginsNext) (hstate : s.camp.state = .audit)
    (hnone : ∀ u ∈ s.eng.demandQueue, s.demandable u = false) (hstays : s.demandsDropped.askAudit = s.demandsDropped) :
    (∀ t, s.demandsDropped.beginWalk = some t → exec .arbiterGrant s = .next (t.countGrant s.creditNow))
      ∧ (s.demandsDropped.beginWalk = none → exec .arbiterGrant s = .next s.demandsDropped) := by
  rw [exec_arbiterGrant]
  by_cases hdemands : s.eng.demandQueue = []
  · have hsame : { s with eng.demandQueue := [] } = s := by rw [← hdemands]
    have hchoosing : s.choosing = s.demandsDropped := by
      rw [State.choosing, State.testHead_of_empty h.queue, State.moveWalks, State.demandsDropped, hsame]
      simp [h.may, hdemands, hstate]
    have hempty : s.demandsDropped.eng.demandQueue = [] := by rw [s.demandsDropped_frame]
    have hagain : s.demandsDropped.demandsDropped = s.demandsDropped :=
      State.demandsDropped_of_asked (fun _ => hstays) hempty
    have hbegins : s.demandsDropped.BeginsNext := by
      rw [s.demandsDropped_frame]
      exact ⟨h.role, h.queue, h.hold, h.room, h.read, h.may⟩
    have hcredit : s.demandsDropped.creditNow = s.creditNow := by rw [s.demandsDropped_frame]; rfl
    rw [hchoosing, ← hcredit]
    refine ⟨fun t ht => ?_, fun hwalk => ?_⟩
    · rw [hbegins.arbitrate_walk (by simp [hempty]) (fun _ => hstays) (hagain.symm ▸ ht)]
    · rw [hbegins.arbitrate_noWalk (by simp [hempty]) (fun _ => hstays) (hagain.symm ▸ hwalk), hagain]
  · have hasked : s.eng.demandQueue = [] → s.askAudit = s := fun h => absurd h hdemands
    rw [h.choosing_of_demands hdemands]
    exact ⟨fun t ht => by rw [h.arbitrate_walk hnone hasked ht], fun hwalk => by
      rw [h.arbitrate_noWalk hnone hasked hwalk]⟩

/-- The dirty scan begins the tile it offers and points past it (R98). -/
theorem State.beginWalk_scan {s : State} {tile : Nat} (hstate : s.camp.state = .audit) (hscan : s.scanOffer = some tile) :
    s.beginWalk = some (State.entryBegun { s with eng.scanPointer := (tile + 1) % 131072 } tile) := by
  simp only [State.beginWalk, hstate, hscan]
  rw [State.beginCopy_eq, if_neg (by simp [hstate])]
  rfl

/-- The audit walk begins the tile it stands on and moves past it (R101, R169). -/
theorem State.beginWalk_audit {s : State} {n tile : Nat} {r : Region} (hstate : s.camp.state = .audit)
    (hscan : s.scanOffer = none) (hdone : s.aud.walkDone = false) (hn : s.auditPlaces[s.aud.walk.entry]? = some n)
    (hr : s.tables.region n = some r) (hcopy : r.policy = .copy) (hoffset : r.base + s.aud.walk.offset = tile)
    (hwithin : tile < r.base + r.count) (hclean : s.auditOfferable tile) :
    s.beginWalk = some (State.beginAudit
      { s with
        aud.walk := if tile + 1 < r.base + r.count then ⟨s.aud.walk.entry, tile + 1 - r.base⟩
          else ⟨s.aud.walk.entry + 1, 0⟩
        aud.walkDone := decide (r.base + r.count ≤ tile + 1) && !s.copyRegionFrom (s.aud.walk.entry + 1) } tile) := by
  have hregion : s.auditRegion = some r := by
    rw [State.auditRegion, show s.bankEntries.eraseDups[s.aud.walk.entry]? = some n from hn, Option.bind_some, hr]
  have hoffer : s.auditOffer = some tile := by
    have hhas : r.has tile = true := decide_eq_true ⟨hoffset ▸ Nat.le_add_right _ _, hwithin⟩
    simp [State.auditOffer, hdone, hregion, hoffset, hcopy, hhas, (s.getLsbD_auditable tile).mpr hclean]
  simp only [State.beginWalk, hstate, hscan, hoffer, Option.map_some, State.auditPast, hregion]
  by_cases hnext : tile + 1 < r.base + r.count
  · simp only [if_pos hnext, decide_eq_false (Nat.not_le_of_lt hnext), Bool.false_and, hdone]
  · simp only [if_neg hnext, decide_eq_true (Nat.le_of_not_lt hnext), Bool.true_and]

theorem State.beginWalk_audit_none {s : State} (hstate : s.camp.state = .audit) (hscan : s.scanOffer = none)
    (hdone : s.aud.walkDone = true) : s.beginWalk = none := by
  simp [State.beginWalk, hstate, hscan, State.auditOffer, hdone]

end Sys2Proof.Machine
end

section
/-! SUPPORT. Where the sweep walk, the held-region walk and the drain walk find their tile (R97, R99), and the state in which
each begins it. -/

namespace Sys2Proof.Machine

/-! ### The sweep walk (R61, R97) -/

/-- The first tile the sweep walk looks at in the region of bank entry m. -/
def State.sweepStart (s : State) (m : Nat) (r : Region) : Nat :=
  r.base + if m = s.eng.sweep.entry then s.eng.sweep.offset else 0

/-- The sweep walk's next tile: the first one it may offer from its position on, in the region of bank entry m. -/
structure State.SweepFinds (s : State) (m n tile : Nat) (r : Region) : Prop where
  entry : s.eng.sweep.entry ≤ m
  place : s.bankEntries[m]? = some n
  region : s.tables.region n = some r
  copy : r.policy = .copy
  passed : ∀ k, s.eng.sweep.entry ≤ k → k < m → s.sweepBare k
  start : s.sweepStart m r ≤ tile
  within : tile < r.base + r.count
  offer : s.offerable tile
  first : ∀ u, s.sweepStart m r ≤ u → u < tile → ¬ s.offerable u

/-- The sweep walk at a place of bank entry m, the entries before it passed. -/
def State.sweptAt (s : State) (w : Walk) (m : Nat) : State := { s with eng.sweep := w, mgmt := s.visitsEnded m }

/-- The move of the sweep walk leaves a tile to be begun as it found it. -/
theorem State.BeginsNext.sweptAt {s : State} (h : s.BeginsNext) (w : Walk) (m : Nat) : (s.sweptAt w m).BeginsNext := by
  obtain ⟨hrole, hpace⟩ := s.visitsEnded_inputs m
  have hpaused : (s.sweptAt w m).paused = s.paused := by simp only [State.sweptAt, State.paused, hrole, hpace]
  refine ⟨hrole.trans h.role, h.queue, h.hold, h.room, h.read, ?_⟩
  rw [State.mayBegin, hpaused, show (s.sweptAt w m).mgmt.role = s.mgmt.role from hrole]
  exact h.may

/-- It leaves the demands that may be begun as they were. -/
theorem State.sweptAt_demandable (s : State) (w : Walk) (m u : Nat) :
    (s.sweptAt w m).demandable u = s.demandable u := by
  have hscope : (s.sweptAt w m).scope = s.scope := by
    simp only [State.scope, State.runs, show (s.sweptAt w m).mgmt.role = s.mgmt.role from (s.visitsEnded_inputs m).1]
    rfl
  simp only [State.demandable, State.tracked, State.scopeIs, hscope]
  rfl

section
variable {s : State} {m n tile : Nat} {r : Region} (h : s.SweepFinds m n tile r)
include h

theorem State.SweepFinds.base : r.base ≤ tile := (Nat.le_add_right _ _).trans h.start

/-- The sweep walk stops at the tile it finds. -/
theorem State.SweepFinds.moveSweep :
    s.moveSweep (s.bankEntries.length + 1) = s.sweptAt ⟨m, tile - r.base⟩ m := by
  obtain ⟨hm, hn, hr, hcopy, hbare, hstart, hhigh, htile, hbelow⟩ := h
  have hlength : m < s.bankEntries.length := (List.getElem?_eq_some_iff.mp hn).1
  have hfuel : s.bankEntries.length + 1
      = s.bankEntries.length - (m - s.eng.sweep.entry) + 1 + (m - s.eng.sweep.entry) := by omega
  have hfound : firstTile ((s.sweptTo m).eligible &&& r.mask) (r.base + (s.sweptTo m).eng.sweep.offset) = some tile := by
    rw [State.sweptTo_offset hm]
    exact firstTile_region_some s.getLsbD_eligible hstart ((Nat.le_add_right _ _).trans hstart) hhigh htile hbelow
  rw [hfuel, State.moveSweep_sweptTo hm hlength.le hbare, State.moveSweep]
  simp only [State.sweptTo_entry hm, show (s.sweptTo m).bankEntries[m]? = some n from hn,
    show (s.sweptTo m).tables.region n = some r from hr, hcopy, if_true, hfound]
  rfl

/-- Before the choice the sweep walk stands on the tile it finds, also where demands that wait keep it from moving. -/
theorem State.SweepFinds.choosing (hbegins : s.BeginsNext) (hstate : s.camp.state = .sweep ∨ s.camp.state = .mirror)
    (hwhere : s.eng.demandQueue = [] ∨ m = s.eng.sweep.entry ∧ tile = s.sweepStart m r) :
    s.choosing = s.sweptAt ⟨m, tile - r.base⟩ m := by
  rw [State.choosing, State.testHead_of_empty hbegins.queue]
  by_cases hdemands : s.eng.demandQueue = []
  · rw [State.moveWalks_passing hstate, if_pos ⟨hbegins.may, hdemands⟩, h.moveSweep]
  · obtain ⟨rfl, htile⟩ := hwhere.resolve_left hdemands
    have hoffset : tile - r.base = s.eng.sweep.offset := by
      rw [htile, State.sweepStart, if_pos rfl, Nat.add_sub_cancel_left]
    rw [State.moveWalks_passing hstate, if_neg (fun hmoves => hdemands hmoves.2), hoffset, State.sweptAt,
      State.visitsEnded_of_le (Nat.le_refl _)]

end

/-- The sweep walk on a tile it may offer begins it and moves past it; the visit of the region ends with its last tile. -/
theorem State.beginWalk_sweep {s : State} {n tile : Nat} {r : Region}
    (hstate : s.camp.state = .sweep ∨ s.camp.state = .mirror) (hn : s.bankEntries[s.eng.sweep.entry]? = some n)
    (hr : s.tables.region n = some r) (hcopy : r.policy = .copy) (hoffset : r.base + s.eng.sweep.offset = tile)
    (hwithin : tile < r.base + r.count) (hoffer : s.offerable tile) :
    s.beginWalk = some (State.entryBegun
      { s with
        eng.sweep := if tile + 1 < r.base + r.count then ⟨s.eng.sweep.entry, tile + 1 - r.base⟩
          else ⟨s.eng.sweep.entry + 1, 0⟩
        mgmt := if tile + 1 < r.base + r.count ∨ r.regionEnd = false then s.mgmt
          else s.mgmt.raise s.cfg.eventMask .regionEnd } tile) := by
  have hregion : (s.bankEntries[s.eng.sweep.entry]?).bind s.tables.region = some r := by
    rw [hn, Option.bind_some, hr]
  have hoffered : s.sweepOffer = some tile := by
    have hhas : r.has tile = true := decide_eq_true ⟨hoffset ▸ Nat.le_add_right _ _, hwithin⟩
    simp only [State.sweepOffer, hregion, hoffset, hcopy, hhas, (s.getLsbD_eligible tile).mpr hoffer, decide_true,
      Bool.and_self, if_true]
  have hstays : (s.sweepPast tile).camp.state ≠ .insync := by
    rw [s.sweepPast_frame]
    rcases hstate with hstate | hstate <;> simp [hstate]
  have hbegun : s.beginWalk = some ((s.sweepPast tile).beginCopy tile) := by
    rcases hstate with hstate | hstate <;> simp only [State.beginWalk, hstate, hoffered, Option.map_some]
  rw [hbegun, State.beginCopy_eq, if_neg hstays, State.sweepPast]
  simp only [hregion]
  by_cases hnext : tile + 1 < r.base + r.count
  · simp only [hnext, if_true, true_or]
  · cases hflag : r.regionEnd <;> simp [hnext, hflag, State.endVisit] <;> rfl

/-! ### The held-region walk (R99) -/

/-- The held-region walk goes upward in the region from its place, then from the region's first tile. -/
theorem State.freezeOffer_some {s : State} {n tile : Nat} {r : Region} (hbegun : s.camp.copyBegun = true)
    (hn : s.mon.regionHold = some n) (hr : s.tables.region n = some r) (hlow : r.base ≤ tile)
    (hhigh : tile < r.base + r.count) (hoffer : s.offerable tile)
    (h : r.base + s.eng.freezeWalk ≤ tile ∧ (∀ u, r.base + s.eng.freezeWalk ≤ u → u < tile → ¬ s.offerable u)
      ∨ (∀ u, r.base + s.eng.freezeWalk ≤ u → u < r.base + r.count → ¬ s.offerable u)
        ∧ ∀ u, r.base ≤ u → u < tile → ¬ s.offerable u) : s.freezeOffer = some tile := by
  have hregion : s.mon.regionHold.bind s.tables.region = some r := by rw [hn, Option.bind_some, hr]
  simp only [State.freezeOffer, hbegun, if_true, hregion]
  rcases h with ⟨hstart, hbelow⟩ | ⟨habove, hbelow⟩
  · simp only [firstTile_region_some s.getLsbD_eligible hstart hlow hhigh hoffer hbelow]
  · simp only [firstTile_region_none s.getLsbD_eligible fun u hu _ => habove u hu]
    exact firstTile_region_some s.getLsbD_eligible hlow hlow hhigh hoffer hbelow

/-- The held-region walk begins the tile it offers and moves past it. -/
theorem State.beginWalk_freeze {s : State} {n tile : Nat} {r : Region} (hstate : s.camp.state = .freeze)
    (hn : s.mon.regionHold = some n) (hr : s.tables.region n = some r) (hoffer : s.freezeOffer = some tile) :
    s.beginWalk = some (State.entryBegun { s with eng.freezeWalk := tile + 1 - r.base } tile) := by
  have hregion : s.mon.regionHold.bind s.tables.region = some r := by rw [hn, Option.bind_some, hr]
  simp only [State.beginWalk, hstate, hoffer, hregion]
  rw [State.beginCopy_eq, if_neg (by simp [hstate])]

/-! ### The drain walk (R99) -/

/-- The drain walk's place k entries on from its position, round the bank, is a COPY or LATE region. -/
def State.drainVisits (s : State) (w : Walk) (k : Nat) (r : Region) : Prop :=
  ∃ n, s.bankEntries[(w.entry + k) % s.bankEntries.length]? = some n ∧ s.tables.region n = some r
    ∧ (r.policy = .copy ∨ r.policy = .late)

/-- The first tile the drain walk looks at in the region k entries on from its position. -/
def drainStart (w : Walk) (k : Nat) (r : Region) : Nat := r.base + if k = 0 then w.offset else 0

/-- The drain walk's next tile: the first one it may offer from its position on, in a region k entries on. -/
structure State.DrainFinds (s : State) (w : Walk) (k tile : Nat) (r : Region) : Prop where
  visits : s.drainVisits w k r
  start : drainStart w k r ≤ tile
  within : tile < r.base + r.count
  offer : s.offerable tile
  first : ∀ u, drainStart w k r ≤ u → u < tile → ¬ s.offerable u
  passed : ∀ j q, j < k → s.drainVisits w j q → ∀ u, drainStart w j q ≤ u → u < q.base + q.count → ¬ s.offerable u

theorem mod_place_succ (e k length : Nat) : ((e + 1) % length + k) % length = (e + (k + 1)) % length := by
  rw [Nat.mod_add_mod, Nat.add_assoc, Nat.add_comm 1 k]

/-- One entry on, the drain walk's next tile is one entry nearer. -/
theorem State.DrainFinds.next {s : State} {w : Walk} {k tile : Nat} {r : Region} (h : s.DrainFinds w (k + 1) tile r) :
    s.DrainFinds ⟨(w.entry + 1) % s.bankEntries.length, 0⟩ k tile r := by
  have hvisits : ∀ j q, s.drainVisits ⟨(w.entry + 1) % s.bankEntries.length, 0⟩ j q ↔ s.drainVisits w (j + 1) q :=
    fun j q => by simp only [State.drainVisits, mod_place_succ]
  have hstart : ∀ j q, drainStart ⟨(w.entry + 1) % s.bankEntries.length, 0⟩ j q = drainStart w (j + 1) q :=
    fun j q => by simp [drainStart]
  refine ⟨(hvisits k r).mpr h.visits, ?_, h.within, h.offer, ?_, fun j q hj hq => ?_⟩
  · rw [hstart]
    exact h.start
  · rw [hstart]
    exact h.first
  · rw [hstart]
    exact h.passed (j + 1) q (Nat.succ_lt_succ hj) ((hvisits j q).mp hq)

/-- The place a walk of the bank starts from: past the last entry it is entry 0. -/
def State.drainFrom (s : State) (w : Walk) : Walk := if w.entry < s.bankEntries.length then w else ⟨0, 0⟩

theorem State.drainFrom_next {s : State} {w : Walk} (hw : w.entry < s.bankEntries.length) :
    s.drainFrom ⟨w.entry + 1, 0⟩ = ⟨(w.entry + 1) % s.bankEntries.length, 0⟩ := by
  rw [State.drainFrom]
  split_ifs with hnext
  · rw [Nat.mod_eq_of_lt hnext]
  · rw [show w.entry + 1 = s.bankEntries.length by simp only at hnext; omega, Nat.mod_self]

theorem State.drainFrom_entry_lt {s : State} {w : Walk} (h : 0 < s.bankEntries.length) :
    (s.drainFrom w).entry < s.bankEntries.length := by
  rw [State.drainFrom]
  split_ifs with hw
  · exact hw
  · exact h

/-- The drain walk offers the tile it finds. -/
theorem State.DrainFinds.drainOffer {s : State} {k tile : Nat} {r : Region} (fuel : Nat) {w : Walk}
    (h : s.DrainFinds (s.drainFrom w) k tile r) : s.drainOffer (fuel + k + 1) w
      = some (((s.drainFrom w).entry + k) % s.bankEntries.length, r.base, tile) := by
  have hlength : 0 < s.bankEntries.length := by
    obtain ⟨n, hn, -⟩ := h.visits
    exact Nat.zero_lt_of_lt (List.getElem?_eq_some_iff.mp hn).1
  have hentry : (s.drainFrom w).entry < s.bankEntries.length := s.drainFrom_entry_lt hlength
  have hhere : ((s.drainFrom w).entry + 0) % s.bankEntries.length = (s.drainFrom w).entry := Nat.mod_eq_of_lt hentry
  rw [State.drainOffer]
  simp only [show (if w.entry < s.bankEntries.length then w else ⟨0, 0⟩) = s.drainFrom w from rfl]
  cases k with
  | zero =>
    obtain ⟨⟨n, hn, hr, hpolicy⟩, hstart, hwithin, hoffer, hfirst, -⟩ := h
    rw [hhere] at hn ⊢
    have hfound : firstTile (s.eligible &&& r.mask) (r.base + (s.drainFrom w).offset) = some tile :=
      firstTile_region_some s.getLsbD_eligible hstart ((Nat.le_add_right _ _).trans hstart) hwithin hoffer hfirst
    simp [hn, hr, hpolicy, hfound]
  | succ k =>
    have hnext : State.drainOffer (fuel + (k + 1)) s ⟨(s.drainFrom w).entry + 1, 0⟩
        = some (((s.drainFrom w).entry + (k + 1)) % s.bankEntries.length, r.base, tile) := by
      have hfrom := s.drainFrom_next hentry
      have hrest := State.DrainFinds.drainOffer fuel (w := ⟨(s.drainFrom w).entry + 1, 0⟩) (hfrom ▸ h.next)
      rwa [hfrom, mod_place_succ] at hrest
    rw [hnext]
    cases hregion : (s.bankEntries[(s.drainFrom w).entry]?).bind s.tables.region with
    | none => rfl
    | some q =>
      have hnone : (if q.policy = .copy ∨ q.policy = .late then
          firstTile (s.eligible &&& q.mask) (q.base + (s.drainFrom w).offset) else none) = none := by
        split_ifs with hpolicy
        · obtain ⟨n, hn, hq⟩ := Option.bind_eq_some_iff.mp hregion
          refine firstTile_region_none s.getLsbD_eligible fun u hu _ hhigh => ?_
          refine h.passed 0 q (Nat.succ_pos k) ⟨n, ?_, hq, hpolicy⟩ u hu hhigh
          rwa [hhere]
        · rfl
      simp [hnone]

/-- The drain walk begins the tile it offers and moves past it. -/
theorem State.DrainFinds.beginWalk {s : State} {k tile : Nat} {r : Region} (hstate : s.camp.state = .drain)
    (hk : k ≤ s.bankEntries.length) (h : s.DrainFinds (s.drainFrom s.eng.drainWalk) k tile r) :
    s.beginWalk = some (State.entryBegun
      { s with
        eng.drainWalk :=
          ⟨((s.drainFrom s.eng.drainWalk).entry + k) % s.bankEntries.length, tile + 1 - r.base⟩ } tile) := by
  have hoffer := h.drainOffer (s.bankEntries.length - k)
  rw [Nat.sub_add_cancel hk] at hoffer
  simp only [State.beginWalk, hstate, hoffer]
  rw [State.beginCopy_eq, if_neg (by simp [hstate])]

end Sys2Proof.Machine
end

section
/-! PROOFS. The tile a grant begins (R31, R61, R96 to R101, R169): O23. -/

namespace Sys2Proof.Machine

/-- A demand begun in INSYNC takes the sender to MIRROR (R31, R65, R100). -/
theorem State.beginCopy_leavesInsync {s : State} (hrole : s.mgmt.role = .sender) (hstate : s.camp.state = .insync)
    (tile : Nat) : (s.beginCopy tile).camp.state = .mirror ∧ (s.beginCopy tile).camp.synced = false
      ∧ (s.beginCopy tile).eng.inFlight = s.eng.inFlight ++ [InFlight.new tile .copy]
      ∧ (s.tables.pending = none → (s.beginCopy tile).map = clearBit s.map tile)
      ∧ (s.beginCopy tile).mgmt = s.mgmt.raise s.cfg.eventMask .insyncLeave
      ∧ s.changesOnly (s.beginCopy tile) [.mem, .map, .camp, .eng, .txq, .link, .mgmt, .tables] := by
  obtain ⟨hcamp, heng, -, hnone, -, -, hmon, hconv, haud, hrx, hmgmt, hcfg, hpending⟩ :=
    State.leaveInsync_begun (s := s.entryBegun tile) hrole
  rw [State.beginCopy_eq, if_pos hstate]
  refine ⟨by rw [hcamp], by rw [hcamp]; rfl, by rw [heng]; rfl, fun hp => (hnone hp).1, hmgmt, fun b hb => ?_⟩
  cases b with
  | mon => exact hmon
  | conv => exact hconv
  | aud => exact haud
  | rx => exact hrx
  | cfg => exact hcfg
  | pending => exact hpending
  | mem | tables | map | camp | eng | txq | link | mgmt => simp at hb

section
variable {s : State} (h : s.BeginsNext) (hnone : ∀ u ∈ s.eng.demandQueue, s.demandable u = false)
include h hnone

/-- In SWEEP and MIRROR a grant begins the tile the sweep walk finds (R97). -/
theorem State.SweepFinds.grant {m n tile : Nat} {r : Region} (hfinds : s.SweepFinds m n tile r)
    (hstate : s.camp.state = .sweep ∨ s.camp.state = .mirror)
    (hwhere : s.eng.demandQueue = [] ∨ m = s.eng.sweep.entry ∧ tile = s.sweepStart m r) :
    exec .arbiterGrant s = .next (State.countGrant (State.entryBegun
      { s with
        eng.demandQueue := []
        eng.sweep := if tile + 1 < r.base + r.count then ⟨m, tile + 1 - r.base⟩ else ⟨m + 1, 0⟩
        mgmt := if tile + 1 < r.base + r.count ∨ r.regionEnd = false then s.visitsEnded m
          else (s.visitsEnded m).raise s.cfg.eventMask .regionEnd } tile) s.creditNow) := by
  have hunasked : ∀ u : State, u.camp = s.camp → u.askAudit = u := fun u hu =>
    State.askAudit_unasked (.inl (by rw [hu]; rcases hstate with hstate | hstate <;> simp [hstate]))
  have hdropped : (s.sweptAt ⟨m, tile - r.base⟩ m).demandsDropped
      = { s.sweptAt ⟨m, tile - r.base⟩ m with eng.demandQueue := [] } := hunasked _ rfl
  rw [exec_arbiterGrant, hfinds.choosing h hstate hwhere]
  refine congrArg Host.Outcome.next ((h.sweptAt ⟨m, tile - r.base⟩ m).arbitrate_walk
    (fun u hu => (s.sweptAt_demandable _ m u).trans (hnone u hu)) (fun _ => hunasked _ rfl) ?_)
  rw [hdropped]
  exact State.beginWalk_sweep hstate hfinds.place hfinds.region hfinds.copy (Nat.add_sub_cancel' hfinds.base)
    hfinds.within hfinds.offer

omit hnone in
/-- In SWEEP and MIRROR, with no tile left and no demand, a grant moves the walk past the last entry alone (R61). -/
theorem State.BeginsNext.grant_sweptOut (hstate : s.camp.state = .sweep ∨ s.camp.state = .mirror)
    (hdemands : s.eng.demandQueue = []) (hbare : ∀ k, s.eng.sweep.entry ≤ k → s.sweepBare k) :
    exec .arbiterGrant s = .next s.sweptOut := by
  have hwalk : s.sweptOut.beginWalk = none := by
    have hentry : s.sweptOut.bankEntries[s.sweptOut.eng.sweep.entry]? = none :=
      List.getElem?_eq_none s.sweptOut_done
    have hoffer : s.sweptOut.sweepOffer = none := by simp only [State.sweepOffer, hentry, Option.bind_none]
    have hcamp : s.sweptOut.camp = s.camp := rfl
    rcases hstate with hstate | hstate <;> simp only [State.beginWalk, hcamp, hstate, hoffer, Option.map_none]
  have hbegins : s.sweptOut.BeginsNext := h.sweptAt _ _
  rw [exec_arbiterGrant, State.choosing, State.testHead_of_empty h.queue,
    State.moveWalks_sweptOut hstate h.may hdemands hbare,
    State.arbitrate_idle hbegins.role (State.passWaits_of_empty hbegins.queue)
      (.inl (hbegins.copyWaits_none hdemands hwalk))]

/-- Where neither the sweep walk nor the audit walk is asked, a grant begins the tile the state's scan or walk offers. -/
theorem State.BeginsNext.grant_unmoved {t : State} (hstate : s.camp.state ≠ .sweep ∧ s.camp.state ≠ .mirror)
    (hasked : s.camp.state ≠ .audit ∨ s.scanOffer ≠ none)
    (hwalk : State.beginWalk { s with eng.demandQueue := [] } = some t) :
    exec .arbiterGrant s = .next (t.countGrant s.creditNow) := by
  have hunasked : s.askAudit = s := State.askAudit_unasked hasked
  have hdropped : s.demandsDropped = { s with eng.demandQueue := [] } :=
    State.askAudit_unasked (s := { s with eng.demandQueue := [] }) hasked
  have hchoosing : s.choosing = s := by
    rw [State.choosing, State.testHead_of_empty h.queue, State.moveWalks]
    split_ifs
    · split
      · exact absurd ‹_› hstate.1
      · exact absurd ‹_› hstate.2
      · exact hunasked
      · rfl
    · rfl
  rw [exec_arbiterGrant, hchoosing, h.arbitrate_walk hnone (fun _ => hunasked) (hdropped ▸ hwalk)]

/-- In AUDIT, with no tile for the dirty scan, a grant begins the tile the audit walk finds (R101, R169). -/
theorem State.AuditFinds.grant {m n tile : Nat} {r : Region} (hfinds : s.AuditFinds m n tile r)
    (hstate : s.camp.state = .audit) (hscan : s.scanOffer = none) (hdone : s.aud.walkDone = false) :
    exec .arbiterGrant s = .next (State.countGrant (State.beginAudit
      { s with
        eng.demandQueue := []
        aud.walk := if tile + 1 < r.base + r.count then ⟨m, tile + 1 - r.base⟩ else ⟨m + 1, 0⟩
        aud.walkDone := decide (r.base + r.count ≤ tile + 1) && !s.copyRegionFrom (m + 1) } tile) s.creditNow) := by
  have hmoves : ∀ u : State, u.camp.state = .audit → u.scanOffer = none → u.AuditFinds m n tile r →
      u.askAudit = { u with aud.walk := ⟨m, tile - r.base⟩ } := fun u hu hscan hfinds => by
    rw [State.askAudit_asked hu hscan, hfinds.moveAudit]
  have hempty : State.AuditFinds { s with eng.demandQueue := [] } m n tile r :=
    ⟨hfinds.entry, hfinds.place, hfinds.region, hfinds.copy, hfinds.passed, hfinds.start, hfinds.within, hfinds.clean,
      hfinds.first⟩
  have hdropped : s.demandsDropped = { s with eng.demandQueue := [], aud.walk := ⟨m, tile - r.base⟩ } :=
    hmoves _ hstate hscan hempty
  have hstays : s.demandsDropped.askAudit = s.demandsDropped := by
    rw [hdropped]
    exact hmoves _ hstate hscan hempty.stays
  refine (h.grant_audit hstate hnone hstays).1 _ ?_
  rw [hdropped]
  exact State.beginWalk_audit hstate hscan hdone hfinds.place hfinds.region hfinds.copy
    (Nat.add_sub_cancel' hfinds.base) hfinds.within hfinds.clean

/-- In AUDIT, with no tile for the dirty scan or the audit walk, the demands are dropped and the walk is done (R169). -/
theorem State.BeginsNext.grant_auditDone (hstate : s.camp.state = .audit) (hscan : s.scanOffer = none)
    (hbare : ∀ m, s.aud.walk.entry ≤ m → s.AuditBare m) :
    ∃ walk, exec .arbiterGrant s
      = .next { s with eng.demandQueue := [], aud.walk := walk, aud.walkDone := true } := by
  obtain ⟨walk, hmove, hend⟩ := State.moveAudit_none (s := { s with eng.demandQueue := [] }) hbare
  have hdropped : s.demandsDropped
      = { s with eng.demandQueue := [], aud.walk := walk, aud.walkDone := true } :=
    (State.askAudit_asked (s := { s with eng.demandQueue := [] }) hstate hscan).trans hmove
  have hstays : s.demandsDropped.askAudit = s.demandsDropped := by
    rw [hdropped, State.askAudit_asked (by exact hstate) (by exact hscan)]
    exact State.moveAudit_end hend
  have hwalk : s.demandsDropped.beginWalk = none := by
    rw [hdropped]
    exact State.beginWalk_audit_none hstate hscan rfl
  exact ⟨walk, by rw [(h.grant_audit hstate hnone hstays).2 hwalk, hdropped]⟩

end

end Sys2Proof.Machine

namespace Sys2Proof.Proofs
open Sys2Proof.Machine

/-- Settles O23: a demand that may be begun goes first, else the walk or scan of the state finds the tile that is begun. -/
theorem tilesBeginInOrder : Obligations.TilesBeginInOrder := by
  refine ⟨fun s dropped d rest hrole hqueue hhold hroom hread hmay hdemands hdropped hd => ?_,
    fun s hrole hqueue hhold hroom hread hmay hnone => ?_⟩
  · have h : s.BeginsNext := ⟨hrole, hqueue, hhold, hroom, hread, hmay⟩
    refine ⟨_, h.grant_demand hdemands hdropped hd, fun hstate => ?_, fun hstate => ?_⟩
    · rw [State.beginCopy_eq, if_neg hstate]
      rfl
    · obtain ⟨hmirror, hsynced, hflying, hmap, hmgmt, honly⟩ :=
        State.beginCopy_leavesInsync (s := { s with eng.demandQueue := rest }) hrole hstate d
      refine ⟨hmirror, hsynced, hflying, hmap, hmgmt, fun b hb => ?_⟩
      have hagrees := honly b hb
      cases b with
      | mem | tables | map | camp | eng | txq | link | mgmt => simp at hb
      | mon | conv | aud | rx | cfg | pending => exact hagrees
  · have h : s.BeginsNext := ⟨hrole, hqueue, hhold, hroom, hread, hmay⟩
    intro copied
    refine ⟨fun hstate => ⟨?_, ?_⟩, fun hstate => ⟨?_, fun hscan => ⟨?_, ?_⟩⟩, ?_, fun hstate => ?_⟩
    · intro m n tile r hm hn hr hcopy hbare start hstart hwithin hoffer hfirst hwhere
      exact State.SweepFinds.grant h hnone ⟨hm, hn, hr, hcopy, hbare, hstart, hwithin, hoffer, hfirst⟩ hstate hwhere
    · exact h.grant_sweptOut hstate
    · intro tile htile hwhere
      have hscan : s.scanOffer = some tile := State.scanOffer_some htile hwhere
      exact h.grant_unmoved hnone (by simp [hstate]) (.inr (by simp [hscan]))
        (State.beginWalk_scan (s := { s with eng.demandQueue := [] }) hstate hscan)
    · intro m n tile r hdone hm hn hr hcopy hstart hwithin hclean hfirst hbare
      exact State.AuditFinds.grant h hnone ⟨hm, hn, hr, hcopy, hbare, hstart, hwithin, hclean, hfirst⟩ hstate
        (State.scanOffer_none hscan) hdone
    · intro hbare
      obtain ⟨walk, hexec⟩ := h.grant_auditDone hnone hstate (State.scanOffer_none hscan) hbare
      exact ⟨_, hexec, rfl, rfl⟩
    · intro n tile r hstate hbegun hn hr hlow hhigh hoffer hwhere
      have hfreeze : s.freezeOffer = some tile := State.freezeOffer_some hbegun hn hr hlow hhigh hoffer hwhere
      exact h.grant_unmoved hnone (by simp [hstate]) (.inl (by simp [hstate]))
        (State.beginWalk_freeze (s := { s with eng.demandQueue := [] }) hstate hn hr hfreeze)
    · intro w entry start visits k tile r hk hvisits hstart hwithin hoffer hfirst hpassed
      have hfinds : State.DrainFinds { s with eng.demandQueue := [] } w k tile r :=
        ⟨hvisits, hstart, hwithin, hoffer, hfirst, hpassed⟩
      exact h.grant_unmoved hnone (by simp [hstate]) (.inl (by simp [hstate])) (hfinds.beginWalk hstate hk)

end Sys2Proof.Proofs
end

section
/-! SUPPORT. Rules of the relink (R76, R77, R142, R145): what the HELLO of the decision leaves of the sender before it, and what the
answers to RESUME do. -/

namespace Sys2Proof.Machine

/-! ### The HELLO of the decision (R76, R142) -/

/-- A good HELLO's credit total changes nothing but the credits and the credit-taken total (R142). -/
theorem State.recoverCredit_frame (s : State) (total : Seq) : s.recoverCredit total =
    { s with
      txq.credits := (s.recoverCredit total).txq.credits
      link.creditTaken := (s.recoverCredit total).link.creditTaken } := by
  simp only [State.recoverCredit, State.takeCredit]
  split_ifs <;> rfl

/-- The sender as the relink decision meets it: the peer record is the good HELLO's, and its credit total has been taken. -/
def State.greeted (s : State) (p : PeerRecord) (departure : Bool) (credits : Nat) (taken : Seq) : State :=
  { s.goodReceived with
    link.peer := some p
    link.departure := departure
    link.creditTaken := taken
    txq.credits := credits }

/-- The decision is judged by the campaign, the plan, the settings and the queue's numbers, none of which the HELLO changes. -/
theorem State.relinkedFor_of_greeted {s t : State} {p q : PeerRecord} {departure : Bool} {credits : Nat} {taken : Seq}
    (h : (s.greeted p departure credits taken).relinkedFor t q) : s.relinkedFor t q := by
  unfold State.relinkedFor at h ⊢
  split_ifs at h ⊢
  · obtain ⟨hcamp, hresume, honly⟩ := h
    refine ⟨hcamp, hresume, fun b hb => ?_⟩
    have hagree := honly b hb
    cases b <;> first | exact hagree | simp at hb
  all_goals first | exact h | contradiction

theorem State.decideRelink_peer (s : State) (p : PeerRecord) : (s.decideRelink p).link.peer = s.link.peer := by
  unfold State.decideRelink
  simp only
  split
  · rfl
  · by_cases h : State.RestartFits { s with camp.peerWait := none } p
    · rw [State.restart_fits h, State.enterPlan_eq, State.startSteps_eq]
      rfl
    · rw [State.restart_idle h]
      rfl

theorem State.tryRelink_awaited {s : State} {p : PeerRecord} (hopen : s.link.state.isOpen = true) (h : s.PeerAwaited)
    (hp : s.link.peer = some p) : s.tryRelink = s.decideRelink p := by
  obtain ⟨hrole, hstate, hwait, -⟩ := h
  rw [State.tryRelink, hp]
  refine if_pos ?_
  simp only [Bool.and_eq_true, decide_eq_true_eq]
  exact ⟨⟨⟨hrole, hstate⟩, Option.isSome_iff_ne_none.mpr hwait⟩, hopen⟩

section
variable {s : State} (hrole : s.mgmt.role = .sender) (hopen : s.link.state = .up ∨ s.link.state = .cooldown)
  (hstate : s.camp.state = .stalled)
include hrole hopen hstate

/-- A HELLO that a stalled sender waits for is stored, its credit total taken, and the decision made (R76, R141, R142). -/
theorem exec_hello_relinks {b : HelloBody} {p : PeerRecord} (hp : peerOf b = some p) (hwait : s.camp.peerWait ≠ none) :
    ∃ departure credits taken, exec (.hello b) s = .next ((s.greeted p departure credits taken).decideRelink p) := by
  let stored : State :=
    { s.goodFrame with link.peer := some p, link.departure := s.link.state == LinkState.cooldown && s.goodFrame.departs p }
  have hdeparts : ¬ (stored.link.state = .up && stored.departs p) = true := by
    have hno : stored.departs p = false := by simp [State.departs, stored, hstate, SenderState.needsPeer]
    simp [hno]
  have htaken : exec (.hello b) s = .next (s.goodFrame.takeHello b) := by
    rcases hopen with h | h <;> simp only [exec, execHello, h]
  have hsent : s.goodFrame.takeHello b = stored.senderHello p := by
    simp only [State.takeHello, hp, State.goodFrame_mgmt, hrole]
    rfl
  rw [htaken, hsent, State.senderHello, if_neg hdeparts, State.recoverCredit_frame]
  exact ⟨_, _, _, congrArg Host.Outcome.next
    (State.tryRelink_awaited ((LinkState.isOpen_iff _).mpr hopen) ⟨hrole, hstate, hwait, Option.some_ne_none p⟩ rfl)⟩

/-! ### The answers to RESUME (R77, R145) -/

omit hstate in
theorem exec_resumeRefuse (number : Seq) : exec (.resumeRefuse number) s = .next s.goodReceived.refuseResume :=
  congrArg Host.Outcome.next (State.onFrame_sender hrole hopen State.refuseResume)

theorem exec_resumeRefuse_awaited {p : PeerRecord} (number : Seq) (hp : s.link.peer = some p)
    (hwait : s.camp.resumeWait ≠ none) : exec (.resumeRefuse number) s = .next (s.goodReceived.restart p) := by
  have hpeer : s.goodReceived.link.peer = some p := hp
  rw [exec_resumeRefuse hrole hopen, State.refuseResume, hpeer]
  exact congrArg Host.Outcome.next
    (if_pos (Bool.and_eq_true_iff.mpr ⟨decide_eq_true hstate, Option.isSome_iff_ne_none.mpr hwait⟩))

omit hstate in
theorem exec_resumeRefuse_unawaited (number : Seq) (hwait : s.camp.resumeWait = none) :
    exec (.resumeRefuse number) s = .next s.goodReceived := by
  have hnone : s.goodReceived.camp.resumeWait = none := hwait
  rw [exec_resumeRefuse hrole hopen, State.refuseResume, hnone]
  simp only [Option.isSome_none, Bool.and_false, Bool.false_eq_true, if_false]
  cases s.goodReceived.link.peer <;> rfl

end

theorem exec_resumeRepeat (s : State) : exec .resumeRepeat s = .next
    (if s.camp.state = .stalled ∧ s.camp.resumeRepeat ≠ none then
      { s with link.control := controlAdd (.resume s.camp.number s.txq.nextSeq) s.link.control } else s) := by
  simp only [← Option.isSome_iff_ne_none]
  have htest : exec .resumeRepeat s = .next (if s.camp.state = .stalled && s.camp.resumeRepeat.isSome then
    s.raiseControl (.resume s.camp.number s.txq.nextSeq) else s) := rfl
  simp only [htest, Bool.and_eq_true, decide_eq_true_eq]
  rfl

end Sys2Proof.Machine

/-! PROOFS. The relink (R76, R77, R127, R145): O53. -/

namespace Sys2Proof.Proofs
open Sys2Proof.Machine

/-- Settles O53: the HELLO is stored before the decision and changes nothing that the decision is judged by; a RESUME_REFUSE that
is awaited restarts, and each repeat raises RESUME. -/
theorem relinkDecision : Obligations.RelinkDecision := by
  intro s hrole hopen hstate
  refine ⟨fun b p hp hwait => ?_, fun number p hp hwait => ?_, fun hwait number => ?_, fun hrepeat => ?_, fun hrepeat => ?_⟩
  · obtain ⟨departure, credits, taken, hexec⟩ := exec_hello_relinks hrole hopen hstate hp hwait
    exact ⟨_, hexec, State.decideRelink_peer _ p, State.relinkedFor_of_greeted (State.decideRelink_relinkedFor _ p)⟩
  · exact ⟨_, exec_resumeRefuse_awaited hrole hopen hstate number hp hwait, s.goodReceived.restart_restartedFor p⟩
  · exact exec_resumeRefuse_unawaited hrole hopen number hwait
  · rw [exec_resumeRepeat, if_pos ⟨hstate, hrepeat⟩]
  · rw [exec_resumeRepeat, if_neg fun h => h.2 hrepeat]

end Sys2Proof.Proofs
end

section
/-! SUPPORT. Rules of APPLIED (R82, R105, R117, R118): how the record splits at a number, which entries the items up to it cover, what
the queue keeps as they leave, and what the completions of several tiles come to together. -/

namespace Sys2Proof.Machine

/-! ### The record and the entries covered (R117) -/

theorem splitRecord_none {n : Seq} {l : List SentItem} (h : ∀ i ∈ l, i.seq ≠ n) : splitRecord n l = none := by
  induction l with
  | nil => rfl
  | cons i l ih =>
    rw [splitRecord, if_neg (h i List.mem_cons_self), ih fun j hj => h j (List.mem_cons_of_mem _ hj)]

theorem splitRecord_found {n : Seq} {before after : List SentItem} {i : SentItem} (hbefore : ∀ j ∈ before, j.seq ≠ n)
    (hi : i.seq = n) : splitRecord n (before ++ i :: after) = some (before ++ [i], after) := by
  induction before with
  | nil => simp [splitRecord, hi]
  | cons j before ih =>
    rw [List.cons_append, splitRecord, if_neg (hbefore j List.mem_cons_self),
      ih fun k hk => hbefore k (List.mem_cons_of_mem _ hk)]
    rfl

/-- Every frame of the entry has been sent, and its last one is among the items. -/
def TxEntry.coveredIn (items : List SentItem) (e : TxEntry) : Bool :=
  decide (e.body.frames ≤ e.sent) && items.any fun j => j.entry == some e.id && j.index + 1 == e.body.frames

theorem TxQueue.mem_coveredBy_iff {q : TxQueue} (hnodup : (q.queue.map fun e => e.id).Nodup) (items : List SentItem)
    (e : TxEntry) : e ∈ q.coveredBy items ↔ e ∈ q.queue ∧ e.coveredIn items = true := by
  simp only [TxQueue.coveredBy, List.mem_filterMap, TxEntry.coveredIn, Bool.and_eq_true, decide_eq_true_eq,
    List.any_eq_true, beq_iff_eq]
  constructor
  · rintro ⟨j, hj, hfound⟩
    cases hid : j.entry with
    | none => simp [hid] at hfound
    | some id =>
      simp only [hid] at hfound
      have htest := List.find?_some hfound
      simp only [TxEntry.allSent, Bool.and_eq_true, beq_iff_eq, decide_eq_true_eq] at htest
      obtain ⟨⟨hentry, hframes⟩, hsent⟩ := htest
      exact ⟨List.mem_of_find?_eq_some hfound, hsent, j, hj, by rw [hid, hentry], hframes.symm⟩
  · rintro ⟨he, hsent, j, hj, hid, hframes⟩
    refine ⟨j, hj, ?_⟩
    simp only [hid]
    have hpasses : (e.id == e.id && e.body.frames == j.index + 1 && e.allSent) = true := by
      simp [TxEntry.allSent, hframes, hsent]
    cases hfound : q.queue.find? fun d => d.id == e.id && d.body.frames == j.index + 1 && d.allSent with
    | none => exact absurd hpasses (List.find?_eq_none.mp hfound e he)
    | some d =>
      have htest := List.find?_some hfound
      simp only [Bool.and_eq_true, beq_iff_eq] at htest
      rw [List.inj_on_of_nodup_map hnodup (List.mem_of_find?_eq_some hfound) he htest.1.1]

/-- Items of entries that have left the queue cover nothing. -/
theorem TxQueue.coveredBy_unqueued {q : TxQueue} {items : List SentItem}
    (h : ∀ j ∈ items, ∀ e ∈ q.queue, j.entry ≠ some e.id) : q.coveredBy items = [] := by
  refine List.filterMap_eq_nil_iff.mpr fun j hj => ?_
  cases hid : j.entry with
  | none => rfl
  | some id =>
    refine List.find?_eq_none.mpr fun e he htest => h j hj e he ?_
    simp only [Bool.and_eq_true, beq_iff_eq] at htest
    rw [hid, htest.1.1]

/-- A HANDOVER sent at the head of the queue is covered alone by its item behind items of entries that have left. -/
theorem TxQueue.coveredBy_handover {q : TxQueue} {id : Nat} {n : Seq} {behind : List TxEntry} {before : List SentItem}
    (hqueue : q.queue = ⟨id, .handover, 1⟩ :: behind) (h : ∀ j ∈ before, ∀ e ∈ q.queue, j.entry ≠ some e.id) :
    q.coveredBy (before ++ [⟨n, some id, 0⟩]) = [⟨id, .handover, 1⟩] := by
  have hlast : q.coveredBy [⟨n, some id, 0⟩] = [⟨id, .handover, 1⟩] := by
    simp [TxQueue.coveredBy, hqueue, TxBody.frames, TxEntry.allSent]
  have hsplit : q.coveredBy (before ++ [⟨n, some id, 0⟩]) = q.coveredBy before ++ q.coveredBy [⟨n, some id, 0⟩] :=
    List.filterMap_append
  rw [hsplit, TxQueue.coveredBy_unqueued h, hlast, List.nil_append]

/-! ### Entries leave the queue (R113, R114) -/

theorem TxQueue.remove_frame (q : TxQueue) (id : Nat) : q.remove id =
    { q with
      queue := (q.remove id).queue
      backlog := (q.remove id).backlog
      nextEntry := (q.remove id).nextEntry } := by
  rw [TxQueue.remove, TxQueue.refill_eq]

/-- Of the entries numbered below m, which no refill adds to, a removal takes the one entry. -/
theorem TxQueue.remove_below {q : TxQueue} {m : Nat} (hm : m ≤ q.nextEntry) (id : Nat) :
    ((q.remove id).queue.filter fun e => decide (e.id < m))
        = ((q.queue.filter fun e => decide (e.id < m)).filter fun e => e.id != id)
      ∧ m ≤ (q.remove id).nextEntry := by
  rw [TxQueue.remove, TxQueue.refill_eq]
  have hnew : ∀ l : List (TxBody × Nat),
      ((l.map fun p => (⟨q.nextEntry + p.2, p.1, 0⟩ : TxEntry)).filter fun e => decide (e.id < m)) = [] := fun l => by
    simp only [List.filter_eq_nil_iff, List.mem_map, decide_eq_true_eq, forall_exists_index, and_imp]
    rintro e p - rfl
    simp only
    omega
  refine ⟨?_, by simp only; omega⟩
  simp only [List.filter_append, hnew, List.append_nil, List.filter_filter, Bool.and_comm]

/-- The queue after entries have left it one after another. -/
def TxQueue.withoutEntries (q : TxQueue) (es : List TxEntry) : TxQueue := es.foldl (fun q e => q.remove e.id) q

theorem TxQueue.withoutEntries_frame (es : List TxEntry) (q : TxQueue) : q.withoutEntries es =
    { q with
      queue := (q.withoutEntries es).queue
      backlog := (q.withoutEntries es).backlog
      nextEntry := (q.withoutEntries es).nextEntry } := by
  induction es generalizing q with
  | nil => rfl
  | cons e es ih =>
    have hstep : q.withoutEntries (e :: es) = (q.remove e.id).withoutEntries es := rfl
    rw [hstep, ih, q.remove_frame]

theorem TxQueue.withoutEntries_below {m : Nat} (es : List TxEntry) {q : TxQueue} (hm : m ≤ q.nextEntry) :
    ((q.withoutEntries es).queue.filter fun e => decide (e.id < m))
      = (q.queue.filter fun e => decide (e.id < m)).filter fun e => !es.any fun d => d.id == e.id := by
  induction es generalizing q with
  | nil => simp [TxQueue.withoutEntries]
  | cons d es ih =>
    obtain ⟨hqueue, hnext⟩ := q.remove_below hm d.id
    have hstep : q.withoutEntries (d :: es) = (q.remove d.id).withoutEntries es := rfl
    rw [hstep, ih hnext, hqueue, List.filter_filter]
    refine List.filter_congr fun e _ => ?_
    simp only [List.any_cons, Bool.not_or, bne, Bool.and_comm]
    congr 2
    exact BEq.comm

/-! ### Completions (R82, R105, R108) -/

theorem State.complete_frame (s : State) (tile : Nat) : s.complete tile =
    { s with eng := (s.complete tile).eng, conv := (s.complete tile).conv } := by
  unfold State.complete
  split
  · rfl
  · split <;> rfl

theorem State.complete_withTxq (s : State) (q : TxQueue) (tile : Nat) :
    State.complete { s with txq := q } tile = { s.complete tile with txq := q } := by
  simp only [State.complete]
  split
  · rfl
  · split <;> rfl

theorem State.foldl_complete_frame (tiles : List Nat) (s : State) : tiles.foldl State.complete s =
    { s with eng := (tiles.foldl State.complete s).eng, conv := (tiles.foldl State.complete s).conv } := by
  induction tiles generalizing s with
  | nil => rfl
  | cons tile tiles ih => rw [List.foldl_cons, ih, s.complete_frame]

/-- What completes is out of the in-flight table, and nothing comes into it. -/
theorem State.mem_complete {s : State} {tile : Nat} {f : InFlight} (h : f ∈ (s.complete tile).eng.inFlight) :
    f ∈ s.eng.inFlight ∧ ¬ (f.tile = tile ∧ f.kind = .copy) := by
  unfold State.complete at h
  split at h
  · next hnone => exact ⟨h, by simpa using List.find?_eq_none.mp hnone f h⟩
  · have hfilter : f ∈ s.eng.inFlight.filter fun e => e.tile != tile := by
      split at h <;> exact h
    obtain ⟨hf, htile⟩ := List.mem_filter.mp hfilter
    exact ⟨hf, fun hboth => bne_iff_ne.mp htile hboth.1⟩

theorem State.mem_foldl_complete {tiles : List Nat} {s : State} {f : InFlight}
    (h : f ∈ (tiles.foldl State.complete s).eng.inFlight) :
    f ∈ s.eng.inFlight ∧ ∀ tile ∈ tiles, ¬ (f.tile = tile ∧ f.kind = .copy) := by
  induction tiles generalizing s with
  | nil => exact ⟨h, fun tile ht => absurd ht List.not_mem_nil⟩
  | cons tile tiles ih =>
    obtain ⟨hf, hrest⟩ := ih h
    obtain ⟨hf, hfirst⟩ := State.mem_complete hf
    exact ⟨hf, List.forall_mem_cons.mpr ⟨hfirst, hrest⟩⟩

/-- The sender with the in-flight entries that p picks complete: out of the table and, their faulted flag clear, counted in K for
scope COPY tiles and forgiven a SUSPECT entry. -/
def State.completed (s : State) (p : InFlight → Bool) : State :=
  { s with
    conv.k := min 1048575 (s.conv.k + (s.eng.inFlight.filter fun f => p f && !f.faulted && s.scopeIs .copy f.tile).length)
    eng.inFlight := s.eng.inFlight.filter fun f => !p f
    eng.faults := s.eng.faults.filter fun q =>
      q.quarantined || !s.eng.inFlight.any fun f => p f && !f.faulted && f.tile == q.tile }

/-- The completion is told by the list of the entries picked. -/
theorem State.completed_eq_of_picked {s : State} {p : InFlight → Bool} {picked : List InFlight}
    (h : s.eng.inFlight.filter p = picked) : s.completed p =
      { s with
        conv.k := min 1048575 (s.conv.k + (picked.filter fun f => !f.faulted && s.scopeIs .copy f.tile).length)
        eng.inFlight := s.eng.inFlight.filter fun f => !p f
        eng.faults := s.eng.faults.filter fun q => q.quarantined || !picked.any fun f => !f.faulted && f.tile == q.tile } := by
  simp only [State.completed, ← h, List.filter_filter, List.any_filter, Bool.and_assoc, Bool.and_comm, Bool.and_left_comm]

/-- With no tile twice in flight a completion picks the one copy of its tile. -/
theorem State.complete_eq {s : State} (hnodup : (s.eng.inFlight.map fun e => e.tile).Nodup) (hk : s.conv.k ≤ 1048575)
    (tile : Nat) : s.complete tile = s.completed fun f => f.kind == .copy && f.tile == tile := by
  cases hfound : s.eng.inFlight.find? fun e => e.tile == tile && e.kind == .copy with
  | none =>
    have hno : ∀ f ∈ s.eng.inFlight, ¬ (f.kind == .copy && f.tile == tile) = true := fun f hf => by
      rw [Bool.and_comm]
      exact List.find?_eq_none.mp hfound f hf
    have hkeep : (s.eng.inFlight.filter fun f => !(f.kind == .copy && f.tile == tile)) = s.eng.inFlight :=
      List.filter_eq_self.mpr fun f hf => by simp [hno f hf]
    rw [State.completed_eq_of_picked (List.filter_eq_nil_iff.mpr hno), hkeep, State.complete, hfound]
    simp [Nat.min_eq_right hk]
  | some e =>
    have htest := List.find?_some hfound
    have he := List.mem_of_find?_eq_some hfound
    simp only [Bool.and_eq_true, beq_iff_eq] at htest
    obtain ⟨htile, hkind⟩ := htest
    have honly : ∀ f ∈ s.eng.inFlight, f.tile = tile → f = e := fun f hf hft =>
      List.inj_on_of_nodup_map hnodup hf he (hft.trans htile.symm)
    have hpicked : (s.eng.inFlight.filter fun f => f.kind == .copy && f.tile == tile) = [e] := by
      have heq : (s.eng.inFlight.filter fun f => f.kind == .copy && f.tile == tile)
          = s.eng.inFlight.filter fun f => (f == e) := List.filter_congr fun f hf => by
        rw [Bool.eq_iff_iff, Bool.and_eq_true, beq_iff_eq, beq_iff_eq, beq_iff_eq]
        exact ⟨fun h => honly f hf h.2, fun h => h ▸ ⟨hkind, htile⟩⟩
      rw [heq, List.filter_beq, List.count_eq_one_of_mem hnodup.of_map he, List.replicate_one]
    have hkeep : (s.eng.inFlight.filter fun f => !(f.kind == .copy && f.tile == tile))
        = s.eng.inFlight.filter fun f => f.tile != tile := List.filter_congr fun f hf => by
      by_cases hft : f.tile = tile
      · simp [honly f hf hft, htile, hkind]
      · have hother : (f.tile == tile) = false := beq_eq_false_iff_ne.mpr hft
        simp [bne, hother]
    rw [State.completed_eq_of_picked hpicked, hkeep, State.complete, hfound]
    cases hfaulted : e.faulted with
    | true => simp [hfaulted, Nat.min_eq_right hk]
    | false =>
      have hflip : ∀ q : FaultEntry, (tile == q.tile) = (q.tile == tile) := fun q => BEq.comm
      have hscope : ∀ eng : CopyEngine, State.scopeIs { s with eng := eng } .copy tile = s.scopeIs .copy tile :=
        fun _ => rfl
      cases hcopied : s.scopeIs .copy tile <;>
        simp [hfaulted, htile, hscope, hcopied, hflip, bne, satAdd, Config.passCounterLimit, Nat.min_eq_right hk]

/-- Of a list, what p or q picks is what p picks and what q picks of the rest. -/
theorem length_filter_or {α : Type} (l : List α) (p q r : α → Bool) :
    (l.filter fun a => (p a || q a) && r a).length
      = (l.filter fun a => p a && r a).length + ((l.filter fun a => !p a).filter fun a => q a && r a).length := by
  induction l with
  | nil => rfl
  | cons a l ih => cases hp : p a <;> cases hq : q a <;> cases hr : r a <;> simp_all <;> omega

theorem State.completed_completed (s : State) (p q : InFlight → Bool) :
    (s.completed p).completed q = s.completed fun f => p f || q f := by
  have hcount := length_filter_or s.eng.inFlight p q fun f => !f.faulted && s.scopeIs .copy f.tile
  simp only [← Bool.and_assoc] at hcount
  have hscope : ∀ t, (s.completed p).scopeIs .copy t = s.scopeIs .copy t := fun _ => rfl
  have hk : min 1048575 ((s.completed p).conv.k + ((s.completed p).eng.inFlight.filter fun f =>
      q f && !f.faulted && s.scopeIs .copy f.tile).length)
      = (s.completed fun f => p f || q f).conv.k := by
    simp only [State.completed, hcount]
    omega
  have hinFlight : ((s.completed p).eng.inFlight.filter fun f => !q f)
      = (s.completed fun f => p f || q f).eng.inFlight := by
    simp only [State.completed, List.filter_filter, Bool.not_or, Bool.and_comm]
  have hfaults : ((s.completed p).eng.faults.filter fun x => x.quarantined
      || !(s.completed p).eng.inFlight.any fun f => q f && !f.faulted && f.tile == x.tile)
      = (s.completed fun f => p f || q f).eng.faults := by
    simp only [State.completed, List.filter_filter]
    refine List.filter_congr fun x _ => ?_
    rw [Bool.eq_iff_iff]
    simp only [List.any_filter, Bool.and_eq_true, Bool.or_eq_true, Bool.not_eq_true', List.any_eq_false]
    grind
  rw [State.completed]
  simp only [hscope, hk, hinFlight, hfaults]
  rfl

/-- With no tile twice in flight, completions one after another are one completion of all their tiles' copies. -/
theorem State.foldl_complete_eq (tiles : List Nat) {s : State} (hnodup : (s.eng.inFlight.map fun e => e.tile).Nodup)
    (hk : s.conv.k ≤ 1048575) :
    tiles.foldl State.complete s = s.completed fun f => f.kind == .copy && tiles.contains f.tile := by
  induction tiles generalizing s with
  | nil =>
    have hnone : (s.eng.inFlight.filter fun f => f.kind == .copy && ([] : List Nat).contains f.tile) = [] := by simp
    rw [State.completed_eq_of_picked hnone]
    simp [Nat.min_eq_right hk]
  | cons tile tiles ih =>
    let first := s.completed fun f => f.kind == .copy && f.tile == tile
    have hfirst : (first.eng.inFlight.map fun e => e.tile).Nodup :=
      hnodup.sublist (List.filter_sublist.map _)
    rw [List.foldl_cons, State.complete_eq hnodup hk, ih hfirst (Nat.min_le_left _ _), State.completed_completed]
    simp only [← Bool.and_or_distrib_left, List.contains_cons]

/-! ### What the covered entries bring (R118) -/

/-- The tile of a TILE entry. -/
def TxBody.copied : TxBody → Option Nat
  | .tile t => some t
  | .tileCut _ _ | .mirror _ _ _ _ _ _ | .digest _ _ | .syncMark _ | .quarantine _ | .plan _ | .handover => none

theorem TxBody.copied_eq_some_iff (b : TxBody) (tile : Nat) : b.copied = some tile ↔ b = .tile tile := by
  cases b <;> simp [TxBody.copied]

theorem State.leaveQueue_eq {s : State} {e : TxEntry} (h : e.body ≠ .handover) :
    s.leaveQueue e = { e.body.copied.toList.foldl State.complete s with txq := s.txq.remove e.id } := by
  cases hbody : e.body with
  | handover => exact absurd hbody h
  | tile tile => simp [State.leaveQueue, State.handOff, hbody, TxBody.copied, State.complete_withTxq]
  | tileCut | mirror | digest | syncMark | quarantine | plan =>
    simp [State.leaveQueue, State.handOff, hbody, TxBody.copied]

/-- Entries other than HANDOVER leave with the completions of their TILE entries. -/
theorem State.foldl_leaveQueue {es : List TxEntry} (h : ∀ e ∈ es, e.body ≠ .handover) (s : State) :
    es.foldl State.leaveQueue s =
      { (es.filterMap fun e => e.body.copied).foldl State.complete s with txq := s.txq.withoutEntries es } := by
  induction es generalizing s with
  | nil => rfl
  | cons e es ih =>
    obtain ⟨he, hes⟩ := List.forall_mem_cons.mp h
    have hfold : ∀ (tiles : List Nat) (u : State) (q : TxQueue),
        tiles.foldl State.complete { u with txq := q } = { tiles.foldl State.complete u with txq := q } := fun tiles u q =>
      List.foldl_hom (fun u : State => { u with txq := q }) fun u tile => u.complete_withTxq q tile
    rw [List.foldl_cons, ih hes, State.leaveQueue_eq he, hfold]
    cases hc : e.body.copied <;> simp [hc, TxQueue.withoutEntries]

section
variable {s : State} {n : Seq}

theorem State.takeApplied_unrecorded (h : ∀ i ∈ s.txq.record, i.seq ≠ n) : s.takeApplied n = s := by
  rw [State.takeApplied, splitRecord_none h]

variable {before after : List SentItem} {i : SentItem} (hrecord : s.txq.record = before ++ i :: after)
  (hbefore : ∀ j ∈ before, j.seq ≠ n) (hi : i.seq = n)
include hrecord hbefore hi

theorem State.takeApplied_recorded : s.takeApplied n =
    (s.txq.coveredBy (before ++ [i])).foldl State.leaveQueue { s with txq.record := after } := by
  rw [State.takeApplied, hrecord, splitRecord_found hbefore hi]

/-- With no HANDOVER among the entries covered they leave the queue, and the copies of the TILE entries complete. -/
theorem State.takeApplied_eq (hnone : ∀ e ∈ s.txq.coveredBy (before ++ [i]), e.body ≠ .handover) : s.takeApplied n =
    { ((s.txq.coveredBy (before ++ [i])).filterMap fun e => e.body.copied).foldl State.complete s with
      txq := TxQueue.withoutEntries { s.txq with record := after } (s.txq.coveredBy (before ++ [i])) } := by
  have hfold : ∀ tiles : List Nat, tiles.foldl State.complete { s with txq.record := after }
      = { tiles.foldl State.complete s with txq := { s.txq with record := after } } := fun tiles =>
    List.foldl_hom (fun u : State => { u with txq := { s.txq with record := after } }) fun u tile =>
      u.complete_withTxq _ tile
  rw [State.takeApplied_recorded hrecord hbefore hi, State.foldl_leaveQueue hnone, hfold]

end

/-! ### HANDED_OVER and the queue (R71, R127) -/

theorem State.foldl_dirtied_withTxq (l : List InFlight) (s : State) (q : TxQueue) :
    l.foldl (fun u e => u.dirtied e.tile) { s with txq := q }
      = { l.foldl (fun u e => u.dirtied e.tile) s with txq := q } :=
  List.foldl_hom (fun u : State => { u with txq := q }) fun _ _ => rfl

/-- Entry to HANDED_OVER empties the queue, so what stood in it makes no difference. -/
theorem State.handedOver_withTxq {s : State} {q : TxQueue} (h : q.emptied = s.txq.emptied) (reason : ExitReason) :
    State.handedOver { s with txq := q } reason = s.handedOver reason := by
  simp only [State.handedOver, State.foldl_dirtied_withTxq, h]
  rfl

end Sys2Proof.Machine

/-! PROOFS. APPLIED (R82, R105, R108, R117, R118): O50. -/

namespace Sys2Proof.Proofs
open Sys2Proof.Machine

/-- Settles O50: the entries covered are those whose last frame is among the items; they leave the queue one after another, and
the completions of their tiles are one completion of all the copies they pick. A HANDOVER covered empties the queue. -/
theorem appliedCovers : Obligations.AppliedCovers := by
  intro n s hlaw hrole hopen
  obtain ⟨-, -, hnodup, hbelow⟩ := hlaw
  let g := s.goodReceived
  have hexec : exec (.applied n) s = .next (g.takeApplied n) :=
    congrArg Host.Outcome.next (State.onFrame_sender hrole hopen fun s => s.takeApplied n)
  rw [hexec]
  refine ⟨fun hnone => congrArg Host.Outcome.next (State.takeApplied_unrecorded (s := g) hnone), ?_,
    fun id behind before after hqueue hrecord hbefore hbacklog => ?_⟩
  · intro before i after hrecord hbefore hi covered completes hnone
    let es := g.txq.coveredBy (before ++ [i])
    let tiles := es.filterMap fun e => e.body.copied
    have hes : ∀ e, e ∈ es ↔ e ∈ s.txq.queue ∧ covered e = true := TxQueue.mem_coveredBy_iff (q := g.txq) hnodup _
    have htiles : ∀ tile, tile ∈ tiles ↔ ∃ e ∈ s.txq.queue, covered e = true ∧ e.body = .tile tile := fun tile => by
      simp only [tiles, List.mem_filterMap, hes, TxBody.copied_eq_some_iff, and_assoc]
    have hleft : g.takeApplied n = { tiles.foldl State.complete g with
        txq := TxQueue.withoutEntries { g.txq with record := after } es } :=
      State.takeApplied_eq hrecord hbefore hi fun e he => hnone e ((hes e).mp he).1 ((hes e).mp he).2
    have hframe := State.foldl_complete_frame tiles g
    have hqueue := TxQueue.withoutEntries_frame es { g.txq with record := after }
    refine ⟨_, rfl, ?_, ?_, ?_, ?_, ?_, ?_, ?_, ?_, ?_⟩ <;> rw [hleft]
    · rw [hqueue]
    · have hold : (s.txq.queue.filter fun e => decide (e.id < s.txq.nextEntry)) = s.txq.queue :=
        List.filter_eq_self.mpr fun e he => decide_eq_true (hbelow e he)
      have hbehind := TxQueue.withoutEntries_below es (q := { g.txq with record := after }) (Nat.le_refl s.txq.nextEntry)
      refine hbehind.trans ((congrArg _ hold).trans (List.filter_congr fun e he => congrArg (! ·) ?_))
      rw [Bool.eq_iff_iff, List.any_eq_true]
      constructor
      · rintro ⟨d, hd, hid⟩
        obtain ⟨hdq, hcov⟩ := (hes d).mp hd
        rwa [← List.inj_on_of_nodup_map hnodup hdq he (beq_iff_eq.mp hid)]
      · exact fun hcov => ⟨e, (hes e).mpr ⟨he, hcov⟩, beq_self_eq_true _⟩
    · rw [hqueue]; rfl
    · rw [hqueue]; rfl
    · intro e he hcov tile hbody f hf htile hkind
      exact (State.mem_foldl_complete hf).2 tile ((htiles tile).mpr ⟨e, he, hcov, hbody⟩) ⟨htile, hkind⟩
    · intro hno
      have hempty : tiles = [] := List.eq_nil_iff_forall_not_mem.mpr fun tile ht => by
        obtain ⟨e, he, hcov, hbody⟩ := (htiles tile).mp ht
        exact hno e he hcov tile hbody
      rw [hempty]
      exact ⟨rfl, rfl⟩
    · rintro ⟨-, hflying, -⟩ ⟨hk, -⟩
      have hpicks : (fun f : InFlight => f.kind == .copy && tiles.contains f.tile) = completes := by
        funext f
        refine congrArg (f.kind == .copy && ·) ?_
        rw [Bool.eq_iff_iff, List.contains_iff_mem, htiles, List.any_eq_true]
        simp only [Bool.and_eq_true, beq_iff_eq]
      rw [State.foldl_complete_eq tiles (s := g) hflying hk, hpicks]
      exact ⟨rfl, rfl⟩
    · rw [hframe]
      intro b hb
      cases b <;> first | rfl | simp at hb
    · rw [hframe]
  · have hcovers : g.txq.coveredBy (before ++ [⟨n, some id, 0⟩]) = [⟨id, .handover, 1⟩] :=
      TxQueue.coveredBy_handover hqueue fun j hj => (hbefore j hj).2
    have hemptied : (TxQueue.remove { g.txq with record := after } id).emptied = g.txq.emptied := by
      rw [TxQueue.remove, TxQueue.refill_eq, show g.txq.backlog = [] from hbacklog]
      simp [TxQueue.emptied]
    have hleft : g.takeApplied n = State.handedOver
        { g with txq := TxQueue.remove { g.txq with record := after } id } .complete := by
      rw [State.takeApplied_recorded (s := g) hrecord (fun j hj => (hbefore j hj).1) rfl, hcovers]
      exact State.enterHandedOver_eq _ .complete
    rw [hleft, State.handedOver_withTxq hemptied]

end Sys2Proof.Proofs
end

section
/-! SUPPORT. Rules of loss handling (R120 to R124, R133, R136, R143, R144): what the treatment of a lost entry's tile leaves of the
campaign and of the queue, and what stands in the queue once the lost marks are queued again. -/

namespace Sys2Proof.Machine

/-! ### A fall from INSYNC (R65) -/

/-- The sender has fallen from INSYNC to MIRROR: the UNSYNC mark has joined the queue and, behind it, the plan of a bank that was
pending. -/
structure State.Fallen (s t : State) : Prop where
  insync : s.camp.state = .insync
  camp : t.camp = { s.camp with state := .mirror, synced := false, passNumber := t.camp.passNumber }
  pending : t.tables.pending = none
  txq : ∃ plans, t.txq = plans.foldl TxQueue.join (s.txq.join (.syncMark false)) ∧ (s.tables.pending = none → plans = [])

/-- What set requests come to: the campaign, the pending bank and the queue are as they were, or the sender has fallen from
INSYNC once. -/
structure State.StaysOrFalls (s t : State) : Prop where
  role : t.mgmt.role = s.mgmt.role
  identity : t.mgmt.identity = s.mgmt.identity
  split : (t.camp = s.camp ∧ t.tables.pending = s.tables.pending ∧ t.txq = s.txq) ∨ s.Fallen t

theorem State.StaysOrFalls.refl (s : State) : s.StaysOrFalls s := ⟨rfl, rfl, .inl ⟨rfl, rfl, rfl⟩⟩

theorem State.StaysOrFalls.trans {s u t : State} (hsu : s.StaysOrFalls u) (hut : u.StaysOrFalls t) : s.StaysOrFalls t where
  role := hut.role.trans hsu.role
  identity := hut.identity.trans hsu.identity
  split := by
    rcases hsu.split with ⟨hcamp, hpending, htxq⟩ | hfall <;> rcases hut.split with ⟨hcamp', hpending', htxq'⟩ | hfall'
    · exact .inl ⟨hcamp'.trans hcamp, hpending'.trans hpending, htxq'.trans htxq⟩
    · obtain ⟨hinsync, hnew, hnone, hmarks⟩ := hfall'
      rw [hcamp] at hinsync hnew
      rw [hpending, htxq] at hmarks
      exact .inr ⟨hinsync, hnew, hnone, hmarks⟩
    · obtain ⟨hinsync, hnew, hnone, plans, hmarks, hempty⟩ := hfall
      exact .inr ⟨hinsync, by rw [hcamp', hnew], hpending'.trans hnone, plans, htxq'.trans hmarks, hempty⟩
    · have hmirror : u.camp.state = .mirror := by rw [hfall.camp]
      exact absurd (hmirror.symm.trans hfall'.insync) (by decide)

theorem State.leaveInsync_fallen {s : State} (hrole : s.mgmt.role = .sender) (hstate : s.camp.state = .insync) :
    s.Fallen s.leaveInsync := by
  obtain ⟨hcamp, -, -, hnone, hsome, -⟩ := State.leaveInsync_begun hrole
  refine ⟨hstate, by rw [hcamp]; rfl, ?_, ?_⟩
  · cases hpending : s.tables.pending with
    | none => rw [(hnone hpending).2.1]; exact hpending
    | some bank => rw [(hsome bank hpending).1]
  · cases hpending : s.tables.pending with
    | none => exact ⟨[], (hnone hpending).2.2, fun _ => rfl⟩
    | some bank => exact ⟨[.plan (s.tables.validRegions bank)], (hsome bank hpending).2.1, fun h => by simp at h⟩

theorem State.leaveInsync_staysOrFalls {s : State} (hrole : s.mgmt.role = .sender) (hstate : s.camp.state = .insync) :
    s.StaysOrFalls s.leaveInsync := by
  have hmgmt : s.leaveInsync.mgmt = s.unsynced.mgmt := by
    obtain ⟨-, -, -, -, -, -, -, -, -, -, hmgmt, -⟩ := State.leaveInsync_begun hrole
    exact hmgmt
  exact ⟨by rw [hmgmt]; rfl, by rw [hmgmt]; rfl, .inr (State.leaveInsync_fallen hrole hstate)⟩

theorem State.dirtied_staysOrFalls (s : State) (tile : Nat) : s.StaysOrFalls (s.dirtied tile) :=
  ⟨rfl, rfl, .inl ⟨rfl, rfl, rfl⟩⟩

theorem State.markDirty_staysOrFalls (s : State) (tile : Nat) : s.StaysOrFalls (s.markDirty tile) := by
  by_cases h : s.LeavesFor tile
  · rw [State.markDirty_leaves h]
    obtain ⟨hstate, hscope, -⟩ := h
    exact (s.dirtied_staysOrFalls tile).trans
      (State.leaveInsync_staysOrFalls (s := s.dirtied tile) (State.sender_of_scopeIs hscope) hstate)
  · rw [State.markDirty_stays h]
    exact s.dirtied_staysOrFalls tile

/-! ### The treatment of a lost entry's tile (R122) -/

/-- What the treatment of lost entries keeps besides: a bit that is set, and a tile's absence from the in-flight table. -/
structure State.TilesKept (s t : State) : Prop where
  bits : ∀ u, s.bit u = true → t.bit u = true
  landed : ∀ u, s.isInFlight u = false → t.isInFlight u = false

theorem State.TilesKept.refl (s : State) : s.TilesKept s := ⟨fun _ h => h, fun _ h => h⟩

theorem State.TilesKept.trans {s u t : State} (hsu : s.TilesKept u) (hut : u.TilesKept t) : s.TilesKept t :=
  ⟨fun v h => hut.bits v (hsu.bits v h), fun v h => hut.landed v (hsu.landed v h)⟩

theorem State.markDirty_tilesKept (s : State) (tile : Nat) : s.TilesKept (s.markDirty tile) where
  bits := (s.markDirty_setKept tile).bits
  landed u h := by rwa [State.isInFlight, (s.markDirty_setKept tile).inFlight]

theorem State.abandonEntry_tilesKept (s : State) (tile : Nat) : s.TilesKept (s.abandonEntry tile) where
  bits _ h := h
  landed u h := by
    simp only [State.isInFlight, List.any_eq_false] at h
    simp only [State.isInFlight, State.abandonEntry_eng, List.any_eq_false]
    exact fun e he => h e (List.mem_of_mem_filter he)

theorem State.isInFlight_abandonEntry (s : State) (tile : Nat) : (s.abandonEntry tile).isInFlight tile = false := by
  simp [State.isInFlight]

theorem State.redirty_tilesKept (s : State) (tile : Nat) : s.TilesKept (s.redirty tile) where
  bits _ h := h
  landed u h := by
    have hsame : ∀ e : InFlight, ((if e.tile = tile then { e with redirtied := true } else e).tile == u) = (e.tile == u) :=
      fun e => by split_ifs <;> rfl
    simpa only [State.isInFlight, State.redirty_eng, List.any_map, Function.comp_def, hsame] using h

theorem State.abandonEntry_staysOrFalls (s : State) (tile : Nat) : s.StaysOrFalls (s.abandonEntry tile) :=
  ⟨rfl, rfl, .inl ⟨rfl, rfl, rfl⟩⟩

theorem State.redirty_staysOrFalls (s : State) (tile : Nat) : s.StaysOrFalls (s.redirty tile) :=
  ⟨rfl, rfl, .inl ⟨rfl, rfl, rfl⟩⟩

/-- The tile that a lost entry sets dirty (R122). -/
def TxBody.lostTile : TxBody → Option Nat
  | .tile t | .tileCut t _ | .digest t _ => some t
  | .mirror _ _ addr _ _ _ => some (tileOf addr)
  | .syncMark _ | .quarantine _ | .plan _ | .handover => none

/-- An entry with a tile is none of the marks that are queued again. -/
theorem TxBody.not_requeued_of_lostTile {b : TxBody} {t : Nat} (h : b.lostTile = some t) : b.isRequeued = false := by
  cases b <;> first | rfl | simp [TxBody.lostTile] at h

/-- The treatment of an entry, case by case of whether it has a tile: it may abandon the tile's entry in flight, and for a TILE
does; it sets the tile dirty; and it may mark the entry in flight redirtied. -/
theorem State.treatLost_cases (s : State) (e : TxEntry) (lost : List SentItem) :
    (e.body.lostTile = none ∧ s.treatLost e lost = s)
      ∨ ∃ tile, e.body.lostTile = some tile
        ∧ (s.treatLost e lost = (s.abandonEntry tile).markDirty tile
          ∨ (∀ t, e.body ≠ .tile t) ∧ (s.treatLost e lost = s.markDirty tile
            ∨ s.treatLost e lost = (s.markDirty tile).redirty tile)) := by
  cases hbody : e.body with
  | tile t => exact .inr ⟨t, rfl, .inl (by simp only [State.treatLost, hbody])⟩
  | tileCut t n => exact .inr ⟨t, rfl, .inr ⟨by simp, .inl (by simp only [State.treatLost, hbody])⟩⟩
  | digest t v =>
    refine .inr ⟨t, rfl, ?_⟩
    simp only [State.treatLost, hbody]
    split_ifs
    · exact .inl rfl
    · exact .inr ⟨by simp, .inl rfl⟩
  | mirror tag r addr l m d => exact .inr ⟨tileOf addr, rfl, .inr ⟨by simp, .inr (by simp only [State.treatLost, hbody])⟩⟩
  | syncMark | quarantine | plan | handover => exact .inl ⟨rfl, by simp only [State.treatLost, hbody]⟩

theorem State.treatLost_staysOrFalls (s : State) (e : TxEntry) (lost : List SentItem) :
    s.StaysOrFalls (s.treatLost e lost) := by
  rcases s.treatLost_cases e lost with ⟨-, h⟩ | ⟨tile, -, h | ⟨-, h | h⟩⟩ <;> rw [h]
  · exact .refl s
  · exact (s.abandonEntry_staysOrFalls tile).trans (State.markDirty_staysOrFalls _ tile)
  · exact s.markDirty_staysOrFalls tile
  · exact (s.markDirty_staysOrFalls tile).trans (State.redirty_staysOrFalls _ tile)

theorem State.treatLost_tilesKept (s : State) (e : TxEntry) (lost : List SentItem) :
    s.TilesKept (s.treatLost e lost) := by
  rcases s.treatLost_cases e lost with ⟨-, h⟩ | ⟨tile, -, h | ⟨-, h | h⟩⟩ <;> rw [h]
  · exact .refl s
  · exact (s.abandonEntry_tilesKept tile).trans (State.markDirty_tilesKept _ tile)
  · exact s.markDirty_tilesKept tile
  · exact (s.markDirty_tilesKept tile).trans (State.redirty_tilesKept _ tile)

theorem State.treatLost_bit (s : State) {e : TxEntry} (lost : List SentItem) {tile : Nat} (htile : e.body.lostTile = some tile)
    (h : tile < 131072) : (s.treatLost e lost).bit tile = true := by
  have hset : ∀ u : State, (u.markDirty tile).bit tile = true := fun u => by
    rw [u.markDirty_bit, decide_eq_true h, Bool.or_true]
  rcases s.treatLost_cases e lost with ⟨hnone, -⟩ | ⟨t, ht, hcase⟩
  · rw [hnone] at htile
    exact absurd htile (by simp)
  · obtain rfl : t = tile := Option.some.inj (ht.symm.trans htile)
    rcases hcase with h | ⟨-, h | h⟩ <;> rw [h]
    · exact hset _
    · exact hset s
    · exact hset s

theorem State.treatLost_landed (s : State) {e : TxEntry} (lost : List SentItem) {tile : Nat} (hbody : e.body = .tile tile) :
    (s.treatLost e lost).isInFlight tile = false := by
  rw [State.treatLost, hbody]
  exact (State.markDirty_tilesKept _ tile).landed tile (s.isInFlight_abandonEntry tile)

/-- Lost entries treated one after another. -/
def State.treatAll (s : State) (removed : List TxEntry) (lost : List SentItem) : State :=
  removed.foldl (fun s e => s.treatLost e lost) s

theorem State.treatAll_staysOrFalls (removed : List TxEntry) (lost : List SentItem) (s : State) :
    s.StaysOrFalls (s.treatAll removed lost) := by
  induction removed generalizing s with
  | nil => exact .refl s
  | cons e removed ih => exact (s.treatLost_staysOrFalls e lost).trans (ih (s.treatLost e lost))

theorem State.treatAll_tilesKept (removed : List TxEntry) (lost : List SentItem) (s : State) :
    s.TilesKept (s.treatAll removed lost) := by
  induction removed generalizing s with
  | nil => exact .refl s
  | cons e removed ih => exact (s.treatLost_tilesKept e lost).trans (ih (s.treatLost e lost))

/-- What the treatment of one of the entries brings about stands when all have been treated. -/
theorem State.treatAll_of_mem {removed : List TxEntry} {e : TxEntry} (he : e ∈ removed) (lost : List SentItem) (s : State) :
    ∃ u : State, (u.treatLost e lost).TilesKept (s.treatAll removed lost) := by
  obtain ⟨before, after, rfl⟩ := List.append_of_mem he
  have hfold : s.treatAll (before ++ e :: after) lost = ((s.treatAll before lost).treatLost e lost).treatAll after lost := by
    simp only [State.treatAll, List.foldl_append, List.foldl_cons]
  exact ⟨_, by rw [hfold]; exact State.treatAll_tilesKept after lost _⟩

/-! ### The queue grows (R113, R114) -/

theorem TxBody.frames_pos (b : TxBody) : 0 < b.frames := by cases b <;> simp [TxBody.frames, Config.tileChunks]

theorem TxEntry.allSent_of_unsent {e : TxEntry} (h : e.sent = 0) : e.allSent = false :=
  decide_eq_false (by have := e.body.frames_pos; omega)

/-- Entries of no frame sent have come to the tail under new numbers; what the stream goes by is as it was. -/
structure TxQueue.Grown (q p : TxQueue) : Prop where
  queue : ∃ joined, p.queue = q.queue ++ joined ∧ ∀ e ∈ joined, e.sent = 0 ∧ q.nextEntry ≤ e.id
  nextEntry : q.nextEntry ≤ p.nextEntry
  record : p.record = q.record
  credits : p.credits = q.credits

theorem TxQueue.Grown.refl (q : TxQueue) : q.Grown q := ⟨⟨[], by simp, by simp⟩, Nat.le_refl _, rfl, rfl⟩

theorem TxQueue.Grown.trans {q p r : TxQueue} (hqp : q.Grown p) (hpr : p.Grown r) : q.Grown r where
  queue := by
    obtain ⟨first, hfirst, hnew⟩ := hqp.queue
    obtain ⟨second, hsecond, hnew'⟩ := hpr.queue
    refine ⟨first ++ second, by rw [hsecond, hfirst, List.append_assoc], fun e he => ?_⟩
    rcases List.mem_append.mp he with he | he
    · exact hnew e he
    · exact ⟨(hnew' e he).1, hqp.nextEntry.trans (hnew' e he).2⟩
  nextEntry := hqp.nextEntry.trans hpr.nextEntry
  record := hpr.record.trans hqp.record
  credits := hpr.credits.trans hqp.credits

theorem TxQueue.join_grown (q : TxQueue) (b : TxBody) : q.Grown (q.join b) := by
  rcases q.join_cases b with ⟨-, -, h⟩ | ⟨-, h⟩ <;> rw [h]
  · exact ⟨⟨[⟨q.nextEntry, b, 0⟩], rfl, by simp⟩, Nat.le_succ _, rfl, rfl⟩
  · exact ⟨⟨[], by simp, by simp⟩, Nat.le_refl _, rfl, rfl⟩

theorem TxQueue.foldl_join_grown (bs : List TxBody) (q : TxQueue) : q.Grown (bs.foldl TxQueue.join q) := by
  induction bs generalizing q with
  | nil => exact .refl q
  | cons b bs ih => exact (q.join_grown b).trans (ih (q.join b))

theorem TxQueue.refill_grown (q : TxQueue) : q.Grown q.refill := by
  rw [TxQueue.refill_eq]
  refine ⟨⟨_, rfl, fun e he => ?_⟩, Nat.le_add_right _ _, rfl, rfl⟩
  obtain ⟨p, -, rfl⟩ := List.mem_map.mp he
  exact ⟨rfl, Nat.le_add_right _ _⟩

theorem State.StaysOrFalls.grown {s t : State} (h : s.StaysOrFalls t) : s.txq.Grown t.txq := by
  rcases h.split with ⟨-, -, htxq⟩ | hfall
  · rw [htxq]
    exact .refl _
  · obtain ⟨plans, hmarks, -⟩ := hfall.txq
    rw [hmarks]
    exact (s.txq.join_grown _).trans (TxQueue.foldl_join_grown plans _)

/-! ### The lost marks queued again (R123) -/

/-- A mark added to the backlog stands in it. -/
theorem mem_backlogAdd (b : TxBody) (l : List TxBody) : b ∈ backlogAdd b l := by
  unfold backlogAdd
  split
  · next h =>
    obtain ⟨c, hc, hmark⟩ := List.any_eq_true.mp (Bool.and_eq_true_iff.mp h).2
    exact List.mem_map.mpr ⟨c, hc, by rw [if_pos hmark]⟩
  · exact List.mem_append_right _ (List.mem_singleton_self b)

/-- The marks among the entries removed, from their first frame on (R123). -/
def requeuedMarks (removed : List TxEntry) : List TxEntry :=
  (removed.filter fun e => e.body.isRequeued).map fun e => { e with sent := 0 }

/-- A SYNC_MARK is due behind a plan sent again (R123). -/
def State.syncDue (s : State) (removed : List TxEntry) : Bool := s.camp.synced && removed.any fun e => e.body.isPlan

/-- The queue has a place beside the marks queued again. -/
def State.requeueRoom (s : State) (removed : List TxEntry) : Bool :=
  decide (s.txq.queue.length + (requeuedMarks removed).length < 256)

/-- The queue with the marks back at the head of the unsent part, and the SYNC_MARK that is due behind them or in the backlog. -/
def State.requeuedTxq (s : State) (removed : List TxEntry) : TxQueue :=
  { s.txq with
    queue := (s.txq.queue.filter TxEntry.allSent) ++ requeuedMarks removed
      ++ (if s.syncDue removed && s.requeueRoom removed then [⟨s.txq.nextEntry, .syncMark true, 0⟩] else [])
      ++ s.txq.queue.filter fun e => !e.allSent
    backlog := if s.syncDue removed && !s.requeueRoom removed then backlogAdd (.syncMark true) s.txq.backlog else s.txq.backlog
    nextEntry := if s.syncDue removed && s.requeueRoom removed then s.txq.nextEntry + 1 else s.txq.nextEntry }

theorem State.requeue_eq (s : State) (removed : List TxEntry) :
    s.requeue removed = { s with txq := (s.requeuedTxq removed).refill } := by
  have hdue : (s.camp.synced && removed.any fun e => e.body.isPlan) = s.syncDue removed := rfl
  have hroom : (decide (s.txq.queue.length + ((removed.filter fun e => e.body.isRequeued).map fun e =>
      ({ e with sent := 0 } : TxEntry)).length < Config.queueLimit)) = s.requeueRoom removed := rfl
  unfold State.requeue
  simp only [hdue, hroom, State.requeuedTxq]
  cases s.syncDue removed <;> cases s.requeueRoom removed <;> simp [TxQueue.insertHead, requeuedMarks]

theorem State.rebegin_eq (s : State) (removed : List TxEntry) (number : Seq) : s.rebegin removed number =
    { s with link.control := if s.camp.state = .plan ∧ (removed.any fun e => e.body.isPlan) = true then
        controlAdd (.beginCampaign s.camp.number s.mgmt.identity number) s.link.control else s.link.control } := by
  simp only [State.rebegin, Bool.and_eq_true, decide_eq_true_eq]
  split_ifs <;> rfl

/-! ### Loss handling as a whole (R122 to R124) -/

/-- The entries that loss handling removes. -/
def State.lostEntries (s : State) (lost : List SentItem) : List TxEntry := s.txq.queue.filter (s.txq.reached lost)

/-- The entries that stay. -/
def State.keptEntries (s : State) (lost : List SentItem) : List TxEntry :=
  s.txq.queue.filter fun e => !s.txq.reached lost e

/-- An item of the record whose entry has been removed belongs to none. -/
def SentItem.withoutEntries (gone : List TxEntry) (i : SentItem) : SentItem :=
  match i.entry with
  | some id => if (gone.map fun e => e.id).contains id then { i with entry := none } else i
  | none => i

/-- The sender with the lost entries out of the queue, before their tiles are treated. -/
def State.lossCut (s : State) (kept lost : List SentItem) : State :=
  { s with
    txq.queue := s.keptEntries lost
    txq.record := kept.map (SentItem.withoutEntries (s.lostEntries lost)) }

/-- The sender with the tiles of the lost entries treated. -/
def State.lossTreated (s : State) (kept lost : List SentItem) : State :=
  (s.lossCut kept lost).treatAll (s.lostEntries lost) lost

/-- A HANDOVER among the lost entries. -/
def State.handoverLost (s : State) (lost : List SentItem) : Bool := (s.lostEntries lost).any fun e => e.body.isHandover

/-- The sender about to queue the lost marks again: a HANDOVER lost has its loss counted. -/
def State.lossCounted (s : State) (kept lost : List SentItem) : State :=
  let u := s.lossTreated kept lost
  { u with camp.tries := if s.handoverLost lost then u.camp.tries + 1 else u.camp.tries }

theorem State.loseFrom_eq (s : State) (kept lost : List SentItem) (number : Seq) : s.loseFrom kept lost number =
    if s.handoverLost lost = true ∧ 3 ≤ (s.lossTreated kept lost).camp.tries then
      (s.lossTreated kept lost).handedOver .handoverUnconfirmed
    else (((s.lossCounted kept lost).requeue (s.lostEntries lost)).rebegin (s.lostEntries lost) number).prepareResync number := by
  let u := s.lossTreated kept lost
  have hdef : s.loseFrom kept lost number =
      if s.handoverLost lost && decide (3 ≤ u.camp.tries) then u.enterHandedOver .handoverUnconfirmed
      else (((if s.handoverLost lost then { u with camp.tries := u.camp.tries + 1 } else u).requeue
        (s.lostEntries lost)).rebegin (s.lostEntries lost) number).prepareResync number := rfl
  have hcounted : (if s.handoverLost lost then { u with camp.tries := u.camp.tries + 1 } else u) = s.lossCounted kept lost := by
    unfold State.lossCounted
    cases s.handoverLost lost <;> rfl
  rw [hdef, hcounted, State.enterHandedOver_eq]
  simp only [Bool.and_eq_true, decide_eq_true_eq]
  rfl

/-- The sender with the stream restarted at the resync number (R123, R124, R144). -/
def State.lossResumed (s : State) (kept lost : List SentItem) (number : Seq) : State :=
  let v := s.lossCounted kept lost
  { v with
    txq := { (v.requeuedTxq (s.lostEntries lost)).refill with
      nextSeq := number
      resync := some number
      resyncMark := some v.camp.synced }
    link.control := if v.camp.state = .plan ∧ ((s.lostEntries lost).any fun e => e.body.isPlan) = true then
      controlAdd (.beginCampaign v.camp.number v.mgmt.identity number) v.link.control else v.link.control }

section
variable {s : State} {kept lost : List SentItem} {number : Seq}

theorem State.mem_lostEntries {e : TxEntry} :
    e ∈ s.lostEntries lost ↔ e ∈ s.txq.queue ∧ s.txq.reached lost e = true := List.mem_filter

theorem State.mem_keptEntries {e : TxEntry} :
    e ∈ s.keptEntries lost ↔ e ∈ s.txq.queue ∧ s.txq.reached lost e = false := by
  rw [State.keptEntries, List.mem_filter, Bool.not_eq_true']

theorem TxBody.isHandover_iff (b : TxBody) : b.isHandover = true ↔ b = .handover := by cases b <;> simp [TxBody.isHandover]

theorem State.handoverLost_iff : s.handoverLost lost = true ↔
    ∃ e ∈ s.txq.queue, s.txq.reached lost e = true ∧ e.body = .handover := by
  simp only [State.handoverLost, List.any_eq_true, State.mem_lostEntries, TxBody.isHandover_iff, and_assoc]

theorem State.lossTreated_staysOrFalls : (s.lossCut kept lost).StaysOrFalls (s.lossTreated kept lost) :=
  State.treatAll_staysOrFalls _ lost _

theorem State.lossTreated_tries : (s.lossTreated kept lost).camp.tries = s.camp.tries := by
  rcases (State.lossTreated_staysOrFalls (s := s) (kept := kept) (lost := lost)).split with ⟨hcamp, -⟩ | hfall
  · rw [hcamp]; rfl
  · rw [hfall.camp]; rfl

/-- The third loss of HANDOVER takes the sender to HANDED_OVER (R71). -/
theorem State.loseFrom_handedOver (hlost : s.handoverLost lost = true) (htries : 3 ≤ s.camp.tries) :
    s.loseFrom kept lost number = (s.lossTreated kept lost).handedOver .handoverUnconfirmed := by
  rw [State.loseFrom_eq, State.lossTreated_tries, if_pos ⟨hlost, htries⟩]

theorem State.loseFrom_resumes (h : s.handoverLost lost = false ∨ s.camp.tries < 3) :
    s.loseFrom kept lost number = s.lossResumed kept lost number := by
  rw [State.loseFrom_eq, State.lossTreated_tries, if_neg, State.requeue_eq, State.rebegin_eq]
  · rfl
  · rintro ⟨hlost, htries⟩
    rcases h with h | h
    · exact Bool.false_ne_true (h.symm.trans hlost)
    · omega

/-- While the sync state is SYNC the treatment has left the queue alone. -/
theorem State.lossCounted_synced (h : (s.lossCounted kept lost).camp.synced = true) :
    (s.lossCounted kept lost).txq = (s.lossCut kept lost).txq := by
  rcases (State.lossTreated_staysOrFalls (s := s) (kept := kept) (lost := lost)).split with ⟨-, -, htxq⟩ | hfall
  · exact htxq
  · have hunsynced : (s.lossTreated kept lost).camp.synced = false := by rw [hfall.camp]
    exact absurd (hunsynced.symm.trans h) (by decide)

/-- The state that loss handling is taken in, as it stands when the marks are queued again. -/
theorem State.lossCounted_camp : (s.lossCounted kept lost).camp.number = s.camp.number
    ∧ (s.camp.state = .plan → (s.lossCounted kept lost).camp.state = .plan)
    ∧ (s.lossCounted kept lost).mgmt.identity = s.mgmt.identity := by
  have hfalls : (s.lossCut kept lost).StaysOrFalls (s.lossTreated kept lost) := State.lossTreated_staysOrFalls
  have hidentity : (s.lossCounted kept lost).mgmt.identity = s.mgmt.identity := hfalls.identity
  have hcounted : (s.lossCounted kept lost).camp.number = (s.lossTreated kept lost).camp.number
    ∧ (s.lossCounted kept lost).camp.state = (s.lossTreated kept lost).camp.state := ⟨rfl, rfl⟩
  rw [hcounted.1, hcounted.2]
  rcases hfalls.split with ⟨hcamp, -⟩ | hfall
  · rw [hcamp]
    exact ⟨rfl, id, hidentity⟩
  · rw [hfall.camp]
    exact ⟨rfl, fun hplan => absurd (hplan.symm.trans hfall.insync) (by decide), hidentity⟩

theorem State.lossResumed_queue :
    let t := s.lossResumed kept lost number
    let staying := s.keptEntries lost
    let marks := requeuedMarks (s.lostEntries lost)
    let synced := t.camp.synced && (s.lostEntries lost).any fun e => e.body.isPlan
    let room := decide (staying.length + marks.length < 256)
    (∃ back, t.txq.queue = (staying.filter TxEntry.allSent) ++ marks
        ++ (if synced && room then [⟨s.txq.nextEntry, .syncMark true, 0⟩] else [])
        ++ (staying.filter fun e => !e.allSent) ++ back ∧ ∀ q ∈ back, s.txq.nextEntry ≤ q.id)
      ∧ (synced = true → room = false → .syncMark true ∈ t.txq.backlog) := by
  intro t staying marks synced room
  let v := s.lossCounted kept lost
  have hgrown : (s.lossCut kept lost).txq.Grown v.txq := State.lossTreated_staysOrFalls.grown
  obtain ⟨joined, hqueue, hjoined⟩ := hgrown.queue
  have hsent : joined.filter TxEntry.allSent = [] := List.filter_eq_nil_iff.mpr fun e he => by
    rw [TxEntry.allSent_of_unsent (hjoined e he).1]; decide
  have hunsent : (joined.filter fun e => !e.allSent) = joined := List.filter_eq_self.mpr fun e he => by
    rw [TxEntry.allSent_of_unsent (hjoined e he).1]; rfl
  have hsame : synced = true → v.requeueRoom (s.lostEntries lost) = room ∧ v.txq.nextEntry = s.txq.nextEntry := fun hs => by
    have htxq : v.txq = (s.lossCut kept lost).txq := State.lossCounted_synced (Bool.and_eq_true_iff.mp hs).1
    rw [State.requeueRoom, htxq]
    exact ⟨rfl, rfl⟩
  have hsync : (if v.syncDue (s.lostEntries lost) && v.requeueRoom (s.lostEntries lost) then
        [(⟨v.txq.nextEntry, .syncMark true, 0⟩ : TxEntry)] else [])
      = if synced && room then [⟨s.txq.nextEntry, .syncMark true, 0⟩] else [] := by
    have hdue : v.syncDue (s.lostEntries lost) = synced := rfl
    rw [hdue]
    cases hs : synced with
    | false => rfl
    | true => rw [(hsame hs).1, (hsame hs).2]
  constructor
  · obtain ⟨refilled, hrefilled, hnew⟩ := (v.requeuedTxq (s.lostEntries lost)).refill_grown.queue
    have hnumber : v.txq.nextEntry ≤ (v.requeuedTxq (s.lostEntries lost)).nextEntry := by
      simp only [State.requeuedTxq]
      split_ifs <;> omega
    refine ⟨joined ++ refilled, ?_, fun q hq => ?_⟩
    · refine hrefilled.trans ?_
      simp only [State.requeuedTxq, hqueue, hsync, List.filter_append, hsent, hunsent, List.append_nil, List.append_assoc]
      rfl
    · rcases List.mem_append.mp hq with hq | hq
      · exact (hjoined q hq).2
      · exact (hgrown.nextEntry.trans hnumber).trans (hnew q hq).2
  · intro hs hfull
    have htxq : v.txq = (s.lossCut kept lost).txq := State.lossCounted_synced (Bool.and_eq_true_iff.mp hs).1
    have hroom : v.requeueRoom (s.lostEntries lost) = false := (hsame hs).1.trans hfull
    have hdue : v.syncDue (s.lostEntries lost) = true := hs
    have hbacklog : (v.requeuedTxq (s.lostEntries lost)).backlog = backlogAdd (.syncMark true) v.txq.backlog := by
      simp [State.requeuedTxq, hroom, hdue]
    have hlength : 256 - (v.requeuedTxq (s.lostEntries lost)).queue.length = 0 := by
      have hsplit := List.length_eq_length_filter_add (l := v.txq.queue) TxEntry.allSent
      have hfull : 256 ≤ v.txq.queue.length + (requeuedMarks (s.lostEntries lost)).length := by
        simpa [State.requeueRoom] using hroom
      simp only [State.requeuedTxq, List.length_append]
      omega
    have hkeeps : t.txq.backlog = backlogAdd (.syncMark true) v.txq.backlog := by
      refine (congrArg TxQueue.backlog (TxQueue.refill_eq _)).trans ?_
      rw [hlength, hbacklog, List.drop_zero]
    rw [hkeeps]
    exact mem_backlogAdd _ _

/-- The record of the stream restarted: the frames before the lost one, in their order (R122). -/
theorem State.lossResumed_stream : ((s.lossResumed kept lost number).txq.record.map fun j => j.seq) = kept.map (fun j => j.seq)
    ∧ (s.lossResumed kept lost number).txq.credits = s.txq.credits := by
  have hgrown : (s.lossCut kept lost).txq.Grown (s.lossCounted kept lost).txq := State.lossTreated_staysOrFalls.grown
  have hrefill := ((s.lossCounted kept lost).requeuedTxq (s.lostEntries lost)).refill_grown
  refine ⟨?_, hrefill.credits.trans hgrown.credits⟩
  refine (congrArg (List.map fun j : SentItem => j.seq) (hrefill.record.trans hgrown.record)).trans ?_
  have hseq : ∀ j : SentItem, (j.withoutEntries (s.lostEntries lost)).seq = j.seq := fun j => by
    unfold SentItem.withoutEntries
    split
    · split_ifs <;> rfl
    · rfl
  exact List.map_map.trans (List.map_congr_left fun j _ => hseq j)

/-- Every entry of the queue after loss handling has stayed, is a mark queued again, or has a new number (R122, R123). -/
theorem State.mem_lossResumed_queue {q : TxEntry} (h : q ∈ (s.lossResumed kept lost number).txq.queue) :
    q ∈ s.keptEntries lost ∨ q ∈ requeuedMarks (s.lostEntries lost) ∨ s.txq.nextEntry ≤ q.id := by
  obtain ⟨⟨back, hqueue, hback⟩, -⟩ := State.lossResumed_queue (s := s) (kept := kept) (lost := lost) (number := number)
  rw [hqueue] at h
  simp only [List.mem_append, List.mem_filter] at h
  rcases h with (((⟨h, -⟩ | h) | h) | ⟨h, -⟩) | h
  · exact .inl h
  · exact .inr (.inl h)
  · split_ifs at h
    · exact .inr (.inr (by rw [List.mem_singleton.mp h]))
    · exact absurd h List.not_mem_nil
  · exact .inl h
  · exact .inr (.inr (hback q h))

theorem State.lossResumed_keeps {e : TxEntry} (he : e ∈ s.keptEntries lost) :
    e ∈ (s.lossResumed kept lost number).txq.queue := by
  obtain ⟨⟨back, hqueue, -⟩, -⟩ := State.lossResumed_queue (s := s) (kept := kept) (lost := lost) (number := number)
  rw [hqueue]
  cases hsent : e.allSent <;> simp [he, hsent]

/-- A QUARANTINE, PLAN or HANDOVER mark lost stands in the queue again, from its first frame (R123). -/
theorem State.lossResumed_requeues {e : TxEntry} (he : e ∈ s.lostEntries lost) (hmark : e.body.isRequeued = true) :
    { e with sent := 0 } ∈ (s.lossResumed kept lost number).txq.queue := by
  obtain ⟨⟨back, hqueue, -⟩, -⟩ := State.lossResumed_queue (s := s) (kept := kept) (lost := lost) (number := number)
  have hmem : { e with sent := 0 } ∈ requeuedMarks (s.lostEntries lost) :=
    List.mem_map_of_mem (List.mem_filter.mpr ⟨he, hmark⟩)
  rw [hqueue]
  simp only [List.mem_append]
  exact .inl (.inl (.inl (.inr hmem)))

/-- A lost entry that is not queued again has left the queue, its number with it (R122). -/
theorem State.lossResumed_gone (hlaw : s.QueueLaw) {e : TxEntry} (he : e ∈ s.lostEntries lost)
    (hmark : e.body.isRequeued = false) : ∀ q ∈ (s.lossResumed kept lost number).txq.queue, q.id ≠ e.id := by
  obtain ⟨-, -, hnodup, hbelow⟩ := hlaw
  obtain ⟨heq, hreached⟩ := State.mem_lostEntries.mp he
  rintro q hq hid
  rcases State.mem_lossResumed_queue hq with h | h | h
  · obtain ⟨hqq, hstays⟩ := State.mem_keptEntries.mp h
    rw [List.inj_on_of_nodup_map hnodup hqq heq hid, hreached] at hstays
    exact Bool.noConfusion hstays
  · obtain ⟨d, hd, rfl⟩ := List.mem_map.mp h
    obtain ⟨hlost, hagain⟩ := List.mem_filter.mp hd
    rw [List.inj_on_of_nodup_map hnodup (State.mem_lostEntries.mp hlost).1 heq hid, hmark] at hagain
    exact Bool.noConfusion hagain
  · have := hbelow e heq
    omega

/-- The tile of a lost entry is dirty (R122). -/
theorem State.lossResumed_bit {e : TxEntry} (he : e ∈ s.lostEntries lost) {tile : Nat} (htile : e.body.lostTile = some tile)
    (h : tile < 131072) : (s.lossResumed kept lost number).bit tile = true := by
  obtain ⟨u, hu⟩ := State.treatAll_of_mem he lost (s.lossCut kept lost)
  exact hu.bits tile (u.treatLost_bit lost htile h)

/-- The tile of a lost TILE entry is out of flight (R107, R122). -/
theorem State.lossResumed_landed {e : TxEntry} (he : e ∈ s.lostEntries lost) {tile : Nat} (hbody : e.body = .tile tile) :
    (s.lossResumed kept lost number).isInFlight tile = false := by
  obtain ⟨u, hu⟩ := State.treatAll_of_mem he lost (s.lossCut kept lost)
  exact hu.landed tile (u.treatLost_landed lost hbody)

theorem State.lossResumed_tries (hlost : s.handoverLost lost = true) :
    (s.lossResumed kept lost number).camp.tries = s.camp.tries + 1 := by
  have htries : (s.lossCounted kept lost).camp.tries = (s.lossTreated kept lost).camp.tries + 1 := if_pos hlost
  exact htries.trans (congrArg (· + 1) State.lossTreated_tries)

/-- In PLAN a plan sent again has BEGIN raised again with it (R144). -/
theorem State.lossResumed_begins (hplan : s.camp.state = .plan) {e : TxEntry} (he : e ∈ s.lostEntries lost)
    (hbody : e.body.isPlan = true) :
    .beginCampaign s.camp.number s.mgmt.identity number ∈ (s.lossResumed kept lost number).link.control := by
  obtain ⟨hnumber, hstate, hidentity⟩ := State.lossCounted_camp (s := s) (kept := kept) (lost := lost)
  rw [State.lossResumed, ← hnumber, ← hidentity]
  simp only
  rw [if_pos ⟨hstate hplan, List.any_eq_true.mpr ⟨e, he, hbody⟩⟩]
  exact mem_controlAdd _ _

end

/-! ### Where the loss is found (R120, R121, R143) -/

section
variable {s : State}

theorem exec_applyTimeout (hrole : s.mgmt.role = .sender) : exec .applyTimeout s = .next s.loseOldest :=
  congrArg Host.Outcome.next (if_pos hrole)

theorem State.loseOldest_none (h : s.txq.record = []) : s.loseOldest = s := by rw [State.loseOldest, h]

theorem State.loseOldest_eq {i : SentItem} {lost : List SentItem} (h : s.txq.record = i :: lost) :
    s.loseOldest = s.loseFrom [] (i :: lost) s.txq.nextSeq := by
  rw [State.loseOldest, h]

theorem exec_gap (hrole : s.mgmt.role = .sender) (hopen : s.link.state = .up ∨ s.link.state = .cooldown) (n : Seq) :
    exec (.gap n) s = .next (s.goodReceived.loseAt n n) :=
  congrArg Host.Outcome.next (State.onFrame_sender hrole hopen fun s => s.loseAt n n)

theorem State.loseAt_unrecorded {n : Seq} (number : Seq) (h : ∀ i ∈ s.txq.record, i.seq ≠ n) : s.loseAt n number = s :=
  if_neg fun hany => by
    obtain ⟨i, hi, hseq⟩ := List.any_eq_true.mp hany
    exact h i hi (beq_iff_eq.mp hseq)

theorem State.loseAt_recorded {n : Seq} (number : Seq) {before lost : List SentItem} {i : SentItem}
    (hrecord : s.txq.record = before ++ i :: lost) (hbefore : ∀ j ∈ before, j.seq ≠ n) (hi : i.seq = n) :
    s.loseAt n number = s.loseFrom before (i :: lost) number := by
  have htake : ((before ++ i :: lost).takeWhile fun i => i.seq != n) = before := by
    rw [List.takeWhile_append_of_pos (by simpa using hbefore)]
    simp [hi]
  have hdrop : ((before ++ i :: lost).dropWhile fun i => i.seq != n) = i :: lost := by
    rw [List.dropWhile_append_of_pos (by simpa using hbefore)]
    simp [hi]
  rw [State.loseAt, hrecord, htake, hdrop]
  exact if_pos (by simp [hi])

/-- A bad frame counted toward a burst in UP, the fourth giving COOLDOWN (R133). -/
def State.badCounted (s : State) : State :=
  if s.link.state = .up ∧ s.link.burst < 3 then { s with link.burst := s.link.burst + 1 }
  else if s.link.state = .up then
    State.latch { s with link.state := .cooldown, link.burst := 0, link.offTime := some s.cfg.offTime.time } .linkBurst
  else s

theorem State.countBad_eq (s : State) : s.countBad = s.badCounted := by
  unfold State.countBad State.badCounted
  by_cases hup : s.link.state = .up
  · have hburst : s.link.burst + 1 < Config.burstLimit ↔ s.link.burst < 3 := Nat.succ_lt_succ_iff
    simp only [hup, if_true, true_and, hburst]
  · simp only [hup, if_false, false_and]

theorem exec_badFrame (s : State) : exec .badFrame s = .next s.badCounted.loseBad :=
  congrArg (fun u : State => Host.Outcome.next u.loseBad) s.countBad_eq

/-- On a sender in UP or COOLDOWN a bad frame starts loss handling, and nowhere else (R143). -/
theorem State.loseBad_eq (s : State) :
    s.loseBad = if s.mgmt.role = .sender ∧ s.link.state.isOpen = true then s.loseOldest else s := by
  simp only [State.loseBad, Bool.and_eq_true, decide_eq_true_eq]

/-- The count changes neither the role, nor the record, nor whether the link is open. -/
theorem State.badCounted_kept (s : State) : s.badCounted.mgmt.role = s.mgmt.role ∧ s.badCounted.txq = s.txq
    ∧ s.badCounted.link.state.isOpen = s.link.state.isOpen := by
  unfold State.badCounted
  split_ifs with hfew hup
  · exact ⟨rfl, rfl, rfl⟩
  · rw [hup]
    exact ⟨rfl, rfl, rfl⟩
  · exact ⟨rfl, rfl, rfl⟩

end

end Sys2Proof.Machine

/-! PROOFS. Loss handling and bad frames (R71, R120 to R124, R133, R136, R143, R144): O51. -/

namespace Sys2Proof.Proofs
open Sys2Proof.Machine

/-- Settles O51: a GAP and an expiry find the lost frame, and loss handling from there is read off the queue it leaves; a bad
frame is counted, and on a sender with the link open is an expiry of the apply timer. -/
theorem lossHandlingAndBadFrames : Obligations.LossHandlingAndBadFrames := by
  refine ⟨fun s hrole hlaw => ⟨fun hnone => ?_, fun n hopen hnone => ?_, ?_⟩, ?_⟩
  · rw [exec_applyTimeout hrole, State.loseOldest_none hnone]
  · rw [exec_gap hrole hopen, State.loseAt_unrecorded n (by exact hnone)]
  · intro c number before lost i hrecord hc reached
    obtain ⟨l, hexec⟩ : ∃ l, exec c s = .next (State.loseFrom { s with link := l } before (i :: lost) number) := by
      rcases hc with ⟨rfl, rfl, rfl⟩ | ⟨rfl, hopen, hi, hbefore⟩
      · exact ⟨s.link, by rw [exec_applyTimeout hrole, State.loseOldest_eq hrecord]⟩
      · exact ⟨s.goodReceived.link, by
          rw [exec_gap hrole hopen, State.loseAt_recorded number (s := s.goodReceived) hrecord hbefore hi]
          rfl⟩
    let u : State := { s with link := l }
    have hmem : ∀ e ∈ s.txq.queue, reached e = true → e ∈ u.lostEntries (i :: lost) := fun e he hreached =>
      State.mem_lostEntries.mpr ⟨he, hreached⟩
    have hlost : u.handoverLost (i :: lost) = true ↔ ∃ e ∈ s.txq.queue, reached e = true ∧ e.body = .handover :=
      State.handoverLost_iff
    refine ⟨_, hexec, fun hhandover htries => ?_, fun hresumes => ?_⟩
    · rw [State.loseFrom_handedOver (s := u) (hlost.mpr hhandover) htries]
      exact ⟨rfl, rfl, rfl⟩
    have hkept : u.handoverLost (i :: lost) = false ∨ u.camp.tries < 3 := hresumes.imp_left fun hnone =>
      Bool.eq_false_of_not_eq_true fun h => by
        obtain ⟨e, he, hreached, hbody⟩ := hlost.mp h
        exact hnone e he hreached hbody
    rw [State.loseFrom_resumes hkept]
    obtain ⟨hseqs, hcredits⟩ :=
      State.lossResumed_stream (s := u) (kept := before) (lost := i :: lost) (number := number)
    obtain ⟨⟨back, hqueue, -⟩, hbacklog⟩ :=
      State.lossResumed_queue (s := u) (kept := before) (lost := i :: lost) (number := number)
    have hmarks : requeuedMarks (u.lostEntries (i :: lost))
        = (s.txq.queue.filter fun e => reached e && e.body.isRequeued).map fun e => { e with sent := 0 } := by
      simp only [requeuedMarks, State.lostEntries, List.filter_filter, Bool.and_comm]
      rfl
    have hplans : ((u.lostEntries (i :: lost)).any fun e => e.body.isPlan)
        = s.txq.queue.any fun e => reached e && e.body.isPlan := by
      simp only [State.lostEntries, List.any_filter]
      rfl
    rw [hmarks, hplans] at hqueue hbacklog
    refine ⟨rfl, rfl, rfl, hseqs, hcredits, fun e he hstays => ?_, ⟨⟨back, hqueue⟩, hbacklog⟩, fun hplan hlostPlan => ?_,
      fun e he hreached => ?_⟩
    · exact State.lossResumed_keeps (s := u) (State.mem_keptEntries.mpr ⟨he, hstays⟩)
    · obtain ⟨e, he, hreached, rs, hbody⟩ := hlostPlan
      exact State.lossResumed_begins (s := u) hplan (hmem e he hreached) (by rw [hbody]; rfl)
    · have treated : ∀ tile, e.body.lostTile = some tile → tile < 131072 →
          (u.lossResumed before (i :: lost) number).bit tile = true
            ∧ ∀ q ∈ (u.lossResumed before (i :: lost) number).txq.queue, q.id ≠ e.id := fun tile htile ht =>
        ⟨State.lossResumed_bit (s := u) (hmem e he hreached) htile ht,
          State.lossResumed_gone (s := u) hlaw (hmem e he hreached) (TxBody.not_requeued_of_lostTile htile)⟩
      refine ⟨fun tile hbody ht => ?_, fun tile k hbody => treated tile (by rw [hbody]; rfl),
        fun tile v hbody => treated tile (by rw [hbody]; rfl),
        fun tag r addr l m d hbody => treated (tileOf addr) (by rw [hbody]; rfl) (tileOf_lt addr), fun hbody => ?_,
        fun hbody => State.lossResumed_tries (s := u) (hlost.mpr ⟨e, he, hreached, hbody⟩)⟩
      · obtain ⟨hbit, hgone⟩ := treated tile (by rw [hbody]; rfl) ht
        exact ⟨hbit, State.lossResumed_landed (s := u) (hmem e he hreached) hbody, hgone⟩
      · refine State.lossResumed_requeues (s := u) (hmem e he hreached) ?_
        rcases hbody with ⟨tile, hbody⟩ | ⟨rs, hbody⟩ | hbody <;> rw [hbody] <;> rfl
  · intro s counted
    obtain ⟨hrole', htxq, hopen'⟩ := s.badCounted_kept
    have hbad : exec .badFrame s = .next (if s.mgmt.role = .sender ∧ s.link.state.isOpen = true then
        counted.loseOldest else counted) := by
      rw [exec_badFrame, State.loseBad_eq, hrole', hopen']
      rfl
    refine ⟨fun hrole hopen => ?_, fun hrole hnone => ?_, fun hother => ?_⟩
    · rw [hbad, if_pos ⟨hrole, (LinkState.isOpen_iff _).mpr hopen⟩]
      exact (exec_applyTimeout (hrole'.trans hrole)).symm
    · have hrecord : counted.txq.record = [] := (congrArg TxQueue.record htxq).trans hnone
      rw [hbad, State.loseOldest_none hrecord, ite_self]
    · rw [hbad, if_neg]
      rintro ⟨hrole, hopen⟩
      rcases hother with h | h
      · exact Role.noConfusion (hrole.symm.trans h)
      · exact h ((LinkState.mem_open_iff _).mpr hopen)

end Sys2Proof.Proofs
end

section
/-! SUPPORT. The transmit queue's law (R113, R114): the numbers of its entries, its size and its backlog, through each operation of
the queue. -/

namespace Sys2Proof.Machine

/-! ### Numbers of entries -/

/-- The entries of a list have numbers of their own, all below n. -/
def Numbered (l : List TxEntry) (n : Nat) : Prop := (l.map fun e => e.id).Nodup ∧ ∀ e ∈ l, e.id < n

theorem Numbered.nil (n : Nat) : Numbered [] n := ⟨List.nodup_nil, fun _ h => absurd h List.not_mem_nil⟩

theorem Numbered.perm {l m : List TxEntry} {n : Nat} (h : Numbered l n) (hp : m.Perm l) : Numbered m n :=
  ⟨(hp.map _).nodup_iff.mpr h.1, fun e he => h.2 e (hp.mem_iff.mp he)⟩

theorem Numbered.sublist {l m : List TxEntry} {n : Nat} (h : Numbered l n) (hs : m.Sublist l) : Numbered m n :=
  ⟨h.1.sublist (hs.map _), fun e he => h.2 e (hs.subset he)⟩

/-- Only the numbers matter. -/
theorem Numbered.map {l : List TxEntry} {n : Nat} (h : Numbered l n) {f : TxEntry → TxEntry} (hf : ∀ e, (f e).id = e.id) :
    Numbered (l.map f) n := by
  refine ⟨?_, fun e he => ?_⟩
  · have hids : ((l.map f).map fun e => e.id) = l.map fun e => e.id := by simp [hf]
    rw [hids]
    exact h.1
  · obtain ⟨d, hd, rfl⟩ := List.mem_map.mp he
    rw [hf]
    exact h.2 d hd

theorem Numbered.append {l : List TxEntry} {n : Nat} (h : Numbered l n) (b : TxBody) :
    Numbered (l ++ [⟨n, b, 0⟩]) (n + 1) := by
  refine ⟨?_, fun e he => ?_⟩
  · rw [List.map_append, List.map_singleton, List.nodup_append_comm, List.singleton_append, List.nodup_cons]
    refine ⟨fun hn => ?_, h.1⟩
    obtain ⟨e, he, hid⟩ := List.mem_map.mp hn
    exact (h.2 e he).ne hid
  · rcases List.mem_append.mp he with he | he
    · exact Nat.lt_succ_of_lt (h.2 e he)
    · rw [List.mem_singleton.mp he]
      exact Nat.lt_succ_self n

theorem Numbered.foldl_append (bs : List TxBody) {q : TxQueue} (h : Numbered q.queue q.nextEntry) :
    Numbered (bs.foldl TxQueue.append q).queue (bs.foldl TxQueue.append q).nextEntry := by
  induction bs generalizing q with
  | nil => exact h
  | cons b bs ih => exact ih (q := q.append b) (h.append b)

/-! ### The queue's law through its operations -/

/-- The law of the transmit queue, said of the queue alone. -/
def TxQueue.Law (q : TxQueue) : Prop :=
  q.queue.length ≤ 256 ∧ (q.queue.length < 256 → q.backlog = []) ∧ Numbered q.queue q.nextEntry

theorem State.queueLaw_iff (s : State) : s.QueueLaw ↔ s.txq.Law := Iff.rfl

/-- A queue that differs in its stream alone. -/
theorem TxQueue.Law.of_same {q p : TxQueue} (h : q.Law) (hqueue : p.queue = q.queue) (hbacklog : p.backlog = q.backlog)
    (hnext : p.nextEntry = q.nextEntry) : p.Law := by
  rw [TxQueue.Law, hqueue, hbacklog, hnext]
  exact h

theorem TxQueue.Law.of_empty {q : TxQueue} (hqueue : q.queue = []) (hbacklog : q.backlog = []) : q.Law := by
  rw [TxQueue.Law, hqueue]
  exact ⟨Nat.zero_le _, fun _ => hbacklog, .nil _⟩

/-- Entries changed in place keep their numbers. -/
theorem TxQueue.Law.map {q : TxQueue} (h : q.Law) {f : TxEntry → TxEntry} (hf : ∀ e, (f e).id = e.id) :
    TxQueue.Law { q with queue := q.queue.map f } := by
  obtain ⟨hsize, hbacklog, hnumbers⟩ := h
  exact ⟨by rwa [List.length_map], by rwa [List.length_map], hnumbers.map hf⟩

theorem TxQueue.Law.append {q : TxQueue} (h : q.Law) (hroom : q.hasRoom = true) (b : TxBody) : (q.append b).Law :=
  State.queueLaw_append { State.reset with txq := q } h (of_decide_eq_true hroom) b

theorem TxQueue.Law.join {q : TxQueue} (h : q.Law) (b : TxBody) : (q.join b).Law :=
  State.queueLaw_join { State.reset with txq := q } h b

/-- A refill gives the law back to a queue of 256 entries at most. -/
theorem TxQueue.refill_law {q : TxQueue} (hsize : q.queue.length ≤ 256) (hnumbers : Numbered q.queue q.nextEntry) :
    q.refill.Law := by
  obtain ⟨hfits, hfull⟩ := q.refill_full hsize
  exact ⟨hfits, hfull, Numbered.foldl_append (q := { q with backlog := _ }) _ hnumbers⟩

theorem TxQueue.Law.remove {q : TxQueue} (h : q.Law) (id : Nat) : (q.remove id).Law := by
  obtain ⟨hsize, -, hnumbers⟩ := h
  have hsub : (q.queue.filter fun e => e.id != id).Sublist q.queue := List.filter_sublist
  exact TxQueue.refill_law (hsub.length_le.trans hsize) (hnumbers.sublist hsub)

/-! ### How a mark joins, waits and refills (R114) -/

theorem TxBody.isSyncMark_iff (b : TxBody) : b.isSyncMark = true ↔ ∃ x, b = .syncMark x := by
  cases b <;> simp [TxBody.isSyncMark]

theorem TxQueue.join_room {q : TxQueue} (b : TxBody) (hroom : q.queue.length < 256) (hbacklog : q.backlog = []) :
    q.join b = q.append b := by
  rcases q.join_cases b with ⟨-, -, hjoin⟩ | ⟨hfull | hsome, -⟩
  · exact hjoin
  · omega
  · exact absurd hbacklog hsome

theorem TxQueue.join_waits {q : TxQueue} (b : TxBody) (h : 256 ≤ q.queue.length ∨ q.backlog ≠ []) :
    q.join b = { q with backlog := backlogAdd b q.backlog } := by
  rcases q.join_cases b with ⟨hroom, hnone, -⟩ | ⟨-, hjoin⟩
  · rcases h with h | h
    · omega
    · exact absurd hnone h
  · exact hjoin

theorem backlogAdd_tail {b : TxBody} {l : List TxBody}
    (h : (∀ x, b ≠ .syncMark x) ∨ ∀ c ∈ l, ∀ x, c ≠ .syncMark x) : backlogAdd b l = l ++ [b] := by
  refine if_neg fun hboth => ?_
  obtain ⟨hmark, hany⟩ := Bool.and_eq_true_iff.mp hboth
  obtain ⟨c, hc, hwaits⟩ := List.any_eq_true.mp hany
  rcases h with h | h
  · obtain ⟨x, hx⟩ := b.isSyncMark_iff.mp hmark
    exact h x hx
  · obtain ⟨x, hx⟩ := c.isSyncMark_iff.mp hwaits
    exact h c hc x hx

/-- A sync mark takes the place of the one that waits. -/
theorem backlogAdd_replaces {before after : List TxBody} {x y : Bool}
    (h : ∀ c ∈ before ++ after, ∀ z, c ≠ .syncMark z) :
    backlogAdd (.syncMark y) (before ++ .syncMark x :: after) = before ++ .syncMark y :: after := by
  have hkeeps : ∀ l : List TxBody, (∀ c ∈ l, ∀ z, c ≠ .syncMark z) →
      (l.map fun c => if c.isSyncMark then .syncMark y else c) = l := fun l hl =>
    (List.map_congr_left fun c hc => if_neg fun hmark => by
      obtain ⟨z, hz⟩ := c.isSyncMark_iff.mp hmark
      exact hl c hc z hz).trans (List.map_id l)
  have hwaits : (TxBody.isSyncMark (.syncMark y) && (before ++ .syncMark x :: after).any TxBody.isSyncMark) = true := by
    simp [TxBody.isSyncMark]
  rw [backlogAdd, if_pos hwaits, List.map_append, List.map_cons, hkeeps before fun c hc => h c (List.mem_append_left _ hc),
    hkeeps after fun c hc => h c (List.mem_append_right _ hc)]
  rfl

/-- As an entry leaves, the places free are filled from the head of the backlog. -/
theorem TxQueue.remove_eq {q : TxQueue} {before after : List TxEntry} {e : TxEntry} (hqueue : q.queue = before ++ e :: after)
    (hothers : ∀ d ∈ before ++ after, d.id ≠ e.id) :
    q.remove e.id = TxQueue.refill { q with queue := before ++ after } := by
  have hfilter : (q.queue.filter fun d => d.id != e.id) = before ++ after := by
    rw [hqueue, List.filter_append, List.filter_cons_of_neg (by simp), ← List.filter_append, List.filter_eq_self]
    simpa using hothers
  rw [TxQueue.remove, hfilter]

end Sys2Proof.Machine
end

section
/-! SUPPORT. What keeps the pending bank and the transmit queue as the laws want them (R27, R28, R113, R114): the relation between
two states, and the operations that leave both alone, the receiver's among them. -/

namespace Sys2Proof.Machine

/-! ### The two laws together -/

/-- The states in which a bank may be pending. -/
def SenderState.mayPend : SenderState → Bool
  | .sweep | .settle | .stalled | .ending => true
  | .idle | .armed | .delay | .plan | .mirror | .audit | .insync | .freeze | .drain | .handedOver => false

theorem State.pendingLaw_iff (s : State) :
    s.PendingLaw ↔ (s.tables.pending.isSome = true → s.camp.state.mayPend = true) := by
  unfold State.PendingLaw
  cases s.camp.state <;> simp [SenderState.mayPend]

theorem State.PendingLaw.of_none {s : State} (h : s.tables.pending = none) : s.PendingLaw := fun hsome => by simp [h] at hsome

theorem State.PendingLaw.of_mayPend {s : State} (h : s.camp.state.mayPend = true) : s.PendingLaw :=
  s.pendingLaw_iff.mpr fun _ => h

theorem State.PendingLaw.of_same {s t : State} (h : s.PendingLaw) (hstate : t.camp.state = s.camp.state)
    (hpending : t.tables.pending = s.tables.pending) : t.PendingLaw := by
  rw [State.PendingLaw, hpending, hstate]
  exact h

/-- No bank is pending in the other states. -/
theorem State.PendingLaw.none {s : State} (h : s.PendingLaw) (hstate : s.camp.state.mayPend = false) :
    s.tables.pending = none := by
  by_contra hsome
  rw [s.pendingLaw_iff.mp h (Option.isSome_iff_ne_none.mpr hsome)] at hstate
  exact Bool.noConfusion hstate

/-- From s to t the law of the pending bank is kept and, with it, the law of the transmit queue. -/
def State.QueueKept (s t : State) : Prop := s.PendingLaw → t.PendingLaw ∧ (s.QueueLaw → t.QueueLaw)

theorem State.QueueKept.refl (s : State) : s.QueueKept s := fun h => ⟨h, id⟩

theorem State.QueueKept.trans {s u t : State} (hsu : s.QueueKept u) (hut : u.QueueKept t) : s.QueueKept t := fun h =>
  have hu := hsu h
  have ht := hut hu.1
  ⟨ht.1, fun hq => ht.2 (hu.2 hq)⟩

/-- The campaign state, the pending bank and the entries of the transmit queue are the same in two states. -/
structure State.QueueSame (s t : State) : Prop where
  state : t.camp.state = s.camp.state
  pending : t.tables.pending = s.tables.pending
  queue : t.txq.queue = s.txq.queue
  backlog : t.txq.backlog = s.txq.backlog
  nextEntry : t.txq.nextEntry = s.txq.nextEntry

theorem State.QueueSame.refl (s : State) : s.QueueSame s := ⟨rfl, rfl, rfl, rfl, rfl⟩

theorem State.QueueSame.trans {s u t : State} (hsu : s.QueueSame u) (hut : u.QueueSame t) : s.QueueSame t where
  state := hut.state.trans hsu.state
  pending := hut.pending.trans hsu.pending
  queue := hut.queue.trans hsu.queue
  backlog := hut.backlog.trans hsu.backlog
  nextEntry := hut.nextEntry.trans hsu.nextEntry

theorem State.QueueSame.kept {s t : State} (h : s.QueueSame t) : s.QueueKept t := fun hp =>
  ⟨hp.of_same h.state h.pending, fun hq => TxQueue.Law.of_same (q := s.txq) hq h.queue h.backlog h.nextEntry⟩

/-- An end of the campaign leaves no bank pending and the queue empty. -/
theorem State.QueueKept.of_emptied {s t : State} (hpending : t.tables.pending = none) (hqueue : t.txq.queue = [])
    (hbacklog : t.txq.backlog = []) : s.QueueKept t := fun _ =>
  ⟨.of_none hpending, fun _ => TxQueue.Law.of_empty hqueue hbacklog⟩

/-- A change of state with the same bank pending: into a state where one may be, or from one where none can be. -/
theorem State.QueueKept.of_state {s t : State} (hpending : t.tables.pending = s.tables.pending)
    (hstate : t.camp.state.mayPend = true ∨ s.camp.state.mayPend = false) (hlaw : s.txq.Law → t.txq.Law) :
    s.QueueKept t := fun hp =>
  ⟨hstate.elim .of_mayPend fun h => .of_none (hpending.trans (hp.none h)), hlaw⟩

/-! ### Changes of state (R140) -/

theorem State.enter_kept (s : State) {st : SenderState} (h : st.mayPend = true ∨ s.camp.state.mayPend = false) :
    s.QueueKept (s.enter st) := by
  rw [State.enter_eq]
  exact .of_state rfl h id

theorem State.queueMark_kept (s : State) (b : TxBody) : s.QueueKept (s.queueMark b) := fun hp =>
  ⟨hp, fun hq => TxQueue.Law.join hq b⟩

/-! ### The receiver's operations (chapter 9) -/

theorem State.helloOnChange_queueSame (s : State) : s.QueueSame s.helloOnChange := by
  rw [State.helloOnChange_eq]
  exact ⟨rfl, rfl, rfl, rfl, rfl⟩

theorem State.syncEvent_queueSame (s : State) (before after : ReceiverState) : s.QueueSame (s.syncEvent before after) := by
  unfold State.syncEvent
  split <;> exact ⟨rfl, rfl, rfl, rfl, rfl⟩

theorem State.enterReceiver_queueSame (s : State) (st : ReceiverState) : s.QueueSame (s.enterReceiver st) := by
  unfold State.enterReceiver
  split
  · exact .refl s
  · refine .trans ?_ (State.syncEvent_queueSame _ _ _)
    exact .trans (u := { s with rx.state := st }) ⟨rfl, rfl, rfl, rfl, rfl⟩ (State.helloOnChange_queueSame _)

theorem State.setHeld_queueSame (s : State) (n : Seq) : s.QueueSame (s.setHeld n) := by
  unfold State.setHeld
  split
  · exact .refl s
  · exact .trans (u := { s with rx.held := n }) ⟨rfl, rfl, rfl, rfl, rfl⟩ (State.helloOnChange_queueSame _)

theorem State.applyHandover_queueSame (s : State) (a : Applying) : s.QueueSame (s.applyHandover a) := by
  unfold State.applyHandover
  split
  · exact .trans (u := { s with rx.demands := [], rx.expired := [] }) ⟨rfl, rfl, rfl, rfl, rfl⟩
      (State.enterReceiver_queueSame _ .live)
  · exact .refl s

theorem State.finishFrame_queueSame (s : State) (a : Applying) : s.QueueSame (s.finishFrame a) := by
  unfold State.finishFrame
  simp only
  split
  · exact ⟨rfl, rfl, rfl, rfl, rfl⟩
  · cases a.report <;> simp only <;> split <;> exact ⟨rfl, rfl, rfl, rfl, rfl⟩

theorem State.tryFinish_queueSame (s : State) : s.QueueSame s.tryFinish := by
  unfold State.tryFinish
  split
  · exact .refl s
  · split
    · exact (s.applyHandover_queueSame _).trans (State.finishFrame_queueSame _ _)
    · exact .refl s

theorem State.fillComplete_queueSame (s : State) : s.QueueSame s.fillComplete := by
  refine .trans ?_ (State.tryFinish_queueSame _)
  dsimp only
  split
  · exact .trans (u := { s with rx.fill := .complete, rx.syncPending := false }) ⟨rfl, rfl, rfl, rfl, rfl⟩
      (State.enterReceiver_queueSame _ .insync)
  · exact ⟨rfl, rfl, rfl, rfl, rfl⟩

theorem State.moveFill_queueSame (s : State) (runs : List (Nat × Nat)) (offset : Nat) :
    s.QueueSame (s.moveFill runs offset) := by
  induction runs generalizing offset with
  | nil => exact s.fillComplete_queueSame
  | cons run runs ih =>
    rw [State.moveFill]
    split
    · exact ⟨rfl, rfl, rfl, rfl, rfl⟩
    · exact ih 0

theorem State.fillFault_queueSame (s : State) (p : FillPosition) : s.QueueSame (s.fillFault p) := by
  refine .trans ?_ (State.moveFill_queueSame _ p.runs (p.offset + 1))
  exact ⟨rfl, rfl, rfl, rfl, rfl⟩

theorem State.fillTermination_queueSame (s : State) (tile line : Nat) (term : Term) :
    s.QueueSame (s.fillTermination tile line term) := by
  unfold State.fillTermination
  split
  · split
    · cases term with
      | done data =>
        dsimp only
        split
        · refine .trans ?_ (State.moveFill_queueSame _ _ _)
          exact ⟨rfl, rfl, rfl, rfl, rfl⟩
        · exact ⟨rfl, rfl, rfl, rfl, rfl⟩
      | fault => exact s.fillFault_queueSame _
      | retry =>
        dsimp only
        split
        · exact s.fillFault_queueSame _
        · exact ⟨rfl, rfl, rfl, rfl, rfl⟩
    · exact .refl s
  · exact .refl s
  · exact .refl s

theorem State.grantApply_queueSame (s : State) (a : Applying) (n : Nat) (again : Bool) :
    s.QueueSame (s.grantApply a n again) := by
  unfold State.grantApply
  dsimp only
  split <;> exact ⟨rfl, rfl, rfl, rfl, rfl⟩

theorem State.endAssembly_queueSame (s : State) (tile : Nat) : s.QueueSame (s.endAssembly tile) := by
  unfold State.endAssembly
  split
  · split <;> exact ⟨rfl, rfl, rfl, rfl, rfl⟩
  · exact .refl s

theorem State.endTransfers_queueSame (s : State) (a : Applying) : s.QueueSame (s.endTransfers a) := by
  unfold State.endTransfers
  split
  · refine .trans ?_ (State.tryFinish_queueSame _)
    dsimp only
    split
    · split
      · exact .trans (u := { s with rx.applying := some _ }) ⟨rfl, rfl, rfl, rfl, rfl⟩ (State.endAssembly_queueSame _ _)
      · exact ⟨rfl, rfl, rfl, rfl, rfl⟩
    · exact ⟨rfl, rfl, rfl, rfl, rfl⟩
  · exact ⟨rfl, rfl, rfl, rfl, rfl⟩

theorem State.applyFault_queueSame (s : State) (a : Applying) : s.QueueSame (s.applyFault a) := by
  unfold State.applyFault
  split
  · refine .trans ?_ (State.endTransfers_queueSame _ _)
    exact ⟨rfl, rfl, rfl, rfl, rfl⟩
  · refine .trans ?_ (State.endTransfers_queueSame _ _)
    exact ⟨rfl, rfl, rfl, rfl, rfl⟩
  · exact s.endTransfers_queueSame _
  all_goals exact .refl s

theorem State.applyTermination_queueSame (s : State) (n : Nat) (term : Term) :
    s.QueueSame (s.applyTermination n term) := by
  unfold State.applyTermination
  split
  · exact .refl s
  · cases term with
    | done data => exact s.endTransfers_queueSame _
    | fault => exact s.applyFault_queueSame _
    | retry =>
      dsimp only
      split
      · exact s.applyFault_queueSame _
      · split
        · exact s.endTransfers_queueSame _
        · exact ⟨rfl, rfl, rfl, rfl, rfl⟩

theorem State.startFill_queueSame (s : State) (rs : List (Nat × Region)) : s.QueueSame (s.startFill rs) :=
  .trans (u := s.abandonFill) ⟨rfl, rfl, rfl, rfl, rfl⟩ (State.moveFill_queueSame _ _ 0)

theorem State.installPlan_queueSame (s : State) : s.QueueSame s.installPlan := by
  refine .trans (.trans ?_ (State.enterReceiver_queueSame _ .receiving)) (State.startFill_queueSame _ _)
  exact ⟨rfl, rfl, rfl, rfl, rfl⟩

theorem State.takeChunk_queueSame (s : State) (tile chunk : Nat) : s.QueueSame (s.takeChunk tile chunk) := by
  unfold State.takeChunk
  split
  · exact ⟨rfl, rfl, rfl, rfl, rfl⟩
  · split
    · split <;> exact ⟨rfl, rfl, rfl, rfl, rfl⟩
    · exact ⟨rfl, rfl, rfl, rfl, rfl⟩

theorem State.startActive_queueSame (s : State) (a : Applying) : s.QueueSame (s.startActive a).1 := by
  unfold State.startActive
  split
  case h_1 =>
    split
    · exact s.takeChunk_queueSame _ _
    · exact .refl s
  case h_4 =>
    split
    · split
      · exact s.enterReceiver_queueSame .insync
      · exact ⟨rfl, rfl, rfl, rfl, rfl⟩
    · exact .refl s
  case h_5 =>
    split
    · exact s.enterReceiver_queueSame .receiving
    · exact ⟨rfl, rfl, rfl, rfl, rfl⟩
  case h_7 =>
    split
    · split <;> exact ⟨rfl, rfl, rfl, rfl, rfl⟩
    · exact .refl s
  case h_8 | h_9 | h_10 => exact .refl s
  all_goals split_ifs <;> exact ⟨rfl, rfl, rfl, rfl, rfl⟩

theorem State.startPlan_queueSame (s : State) (a : Applying) : s.QueueSame (s.startPlan a).1 := by
  cases hbody : a.body <;> simp only [State.startPlan, hbody]
  case plan =>
    cases planRecord _ with
    | none => exact .refl s
    | some r => exact ⟨rfl, rfl, rfl, rfl, rfl⟩
  case planEnd =>
    split
    · exact s.installPlan_queueSame
    · exact ⟨rfl, rfl, rfl, rfl, rfl⟩
  all_goals exact .refl s

/-- A frame's application starts as the plan's, as an active receiver's, or with nothing done. -/
theorem State.startFrame_cases (s : State) (a : Applying) :
    s.startFrame a = (s, a) ∨ s.startFrame a = s.startPlan a ∨ s.startFrame a = s.startActive a := by
  cases hstate : s.rx.state <;> cases hbody : a.body <;> simp [State.startFrame, hstate, hbody]

theorem State.startFrame_queueSame (s : State) (a : Applying) : s.QueueSame (s.startFrame a).1 := by
  rcases s.startFrame_cases a with h | h | h <;> rw [h]
  · exact .refl s
  · exact s.startPlan_queueSame a
  · exact s.startActive_queueSame a

theorem State.dropMarkers_queueSame (s : State) : s.QueueSame s.dropMarkers := by
  unfold State.dropMarkers
  split <;> exact ⟨rfl, rfl, rfl, rfl, rfl⟩

theorem State.takeFrame_queueSame (s : State) : s.QueueSame s.takeFrame := by
  unfold State.takeFrame
  split
  · split
    · dsimp only
      generalize hstart : State.startFrame _ _ = started
      have hstarted : s.QueueSame started.1 := by
        rw [← hstart]
        refine .trans ?_ (State.startFrame_queueSame _ _)
        exact ⟨rfl, rfl, rfl, rfl, rfl⟩
      refine .trans ?_ (State.tryFinish_queueSame _)
      exact hstarted.trans ⟨rfl, rfl, rfl, rfl, rfl⟩
    · exact .refl s
  · exact .refl s

theorem State.takeBegin_queueSame (s : State) (number first : Seq) : s.QueueSame (s.takeBegin number first) := by
  have hheld : s.QueueSame (s.abandonApplying.discardBuffer.setHeld number) := by
    refine .trans ?_ (State.setHeld_queueSame _ number)
    exact ⟨rfl, rfl, rfl, rfl, rfl⟩
  unfold State.takeBegin
  dsimp only
  split
  · refine .trans ?_ (State.enterReceiver_queueSame _ .receiving)
    exact hheld.trans ⟨rfl, rfl, rfl, rfl, rfl⟩
  · exact hheld.trans ⟨rfl, rfl, rfl, rfl, rfl⟩

theorem State.takeAbandon_queueSame (s : State) : s.QueueSame s.takeAbandon := by
  unfold State.takeAbandon
  split
  · refine .trans ?_ (State.enterReceiver_queueSame _ .idle)
    refine .trans (.trans ?_ (State.setHeld_queueSame s.abandonApplying.discardBuffer 0)) ⟨rfl, rfl, rfl, rfl, rfl⟩
    exact ⟨rfl, rfl, rfl, rfl, rfl⟩
  · exact .refl s

theorem State.idleReceiver_queueSame (s : State) : s.QueueSame s.idleReceiver := by
  refine .trans ?_ (State.enterReceiver_queueSame _ .idle)
  refine .trans (.trans ?_ (State.setHeld_queueSame { s.abandonApplying with rx.buffer := [] } 0)) ⟨rfl, rfl, rfl, rfl, rfl⟩
  exact ⟨rfl, rfl, rfl, rfl, rfl⟩

theorem State.receiverLinkLoss_queueSame (s : State) : s.QueueSame s.receiverLinkLoss := by
  rw [State.receiverLinkLoss_eq]
  refine .trans ?_ (State.tryFinish_queueSame _)
  exact ⟨rfl, rfl, rfl, rfl, rfl⟩

theorem State.demandRead_queueSame (s : State) (tile : Nat) : s.QueueSame (s.demandRead tile) := by
  unfold State.demandRead
  split_ifs <;> exact ⟨rfl, rfl, rfl, rfl, rfl⟩

/-- The receiver's next frame: a place freed in the report list may let a waiting frame be applied (R138). -/
theorem State.transmitReceiver_queueSame (s : State) : s.QueueSame s.transmitReceiver := by
  unfold State.transmitReceiver
  split
  · exact ⟨rfl, rfl, rfl, rfl, rfl⟩
  · split
    · refine .trans ?_ (State.tryFinish_queueSame _)
      exact ⟨rfl, rfl, rfl, rfl, rfl⟩
    · split <;> exact ⟨rfl, rfl, rfl, rfl, rfl⟩

end Sys2Proof.Machine
end

section
/-! SUPPORT. The campaign's moves keep the pending bank in its states and the transmit queue to its law (chapters 2 to 5): a pass
begins with no bank pending, an end leaves none, and every other move goes where one may be or comes from where none is. -/

namespace Sys2Proof.Machine

theorem State.QueueKept.same {s u t : State} (h : s.QueueKept u) (hut : u.QueueSame t) : s.QueueKept t := h.trans hut.kept

theorem State.QueueKept.after {s u t : State} (hut : u.QueueKept t) (hsu : s.QueueSame u) : s.QueueKept t := hsu.kept.trans hut

/-- With the campaign state and the pending bank the same only the queue is left to judge. -/
theorem State.QueueKept.of_txq {s t : State} (hstate : t.camp.state = s.camp.state)
    (hpending : t.tables.pending = s.tables.pending) (hlaw : s.txq.Law → t.txq.Law) : s.QueueKept t := fun hp => ⟨hp.of_same hstate hpending, hlaw⟩

theorem State.QueueKept.of_none {s t : State} (hpending : t.tables.pending = none) (hlaw : s.txq.Law → t.txq.Law) :
    s.QueueKept t := fun _ => ⟨.of_none hpending, hlaw⟩

/-! ### Small operations (R9, R16, R32, R39, R40) -/

theorem State.release_queueSame (s : State) : s.QueueSame s.release := by
  rw [State.release_eq]
  exact ⟨rfl, rfl, rfl, rfl, rfl⟩

theorem State.setDirty_queueSame (s : State) (tile : Nat) : s.QueueSame (s.setDirty tile) := by
  rw [State.setDirty_eq]
  exact ⟨rfl, rfl, rfl, rfl, rfl⟩

theorem State.moveWalks_queueSame (s : State) : s.QueueSame s.moveWalks := by
  rw [State.moveWalks_frame]
  exact ⟨rfl, rfl, rfl, rfl, rfl⟩

/-! ### Passes and set requests (R28, R61, R65) -/

theorem State.switchBank_pending (s : State) : s.switchBank.tables.pending = none := by
  unfold State.switchBank
  split
  · assumption
  · rfl

theorem State.switchBank_law {s : State} (h : s.txq.Law) : s.switchBank.txq.Law := by
  unfold State.switchBank
  split
  · exact h
  · exact h.join _

theorem State.beginPass_kept (s : State) (st : SenderState) : s.QueueKept (s.beginPass st) := by
  refine .of_none (State.switchBank_pending _) fun h => State.switchBank_law ?_
  rw [State.enter_eq]
  exact h

theorem State.queueUnsync_kept (s : State) : s.QueueKept s.queueUnsync :=
  State.queueMark_kept { s with camp.synced := false } _

theorem State.leaveInsync_kept (s : State) : s.QueueKept s.leaveInsync :=
  ((s.raise .insyncLeave).queueUnsync_kept).trans (State.beginPass_kept _ .mirror)

theorem State.markDirty_kept (s : State) (tile : Nat) : s.QueueKept (s.markDirty tile) := by
  unfold State.markDirty
  dsimp only
  split
  · exact State.QueueKept.after (State.leaveInsync_kept _) (s.setDirty_queueSame tile)
  · exact (s.setDirty_queueSame tile).kept

theorem State.enterInsync_kept {s : State} (h : s.camp.state.mayPend = false) : s.QueueKept s.enterInsync :=
  (s.enter_kept (.inr h)).trans (State.queueMark_kept { s.enter .insync with camp.synced := true } _)

theorem State.enterAudit_kept {s : State} (h : s.camp.state.mayPend = false) : s.QueueKept s.enterAudit :=
  (s.enter_kept (.inr h)).same ⟨rfl, rfl, rfl, rfl, rfl⟩

/-! ### Ends (R71, R74, R78) -/

theorem State.close_kept (s : State) (reason : ExitReason) : s.QueueKept (s.close reason) := by
  rw [State.close_eq]
  exact .of_emptied rfl rfl rfl

theorem State.enterHandedOver_kept (s : State) (reason : ExitReason) : s.QueueKept (s.enterHandedOver reason) := by
  rw [State.enterHandedOver_eq]
  exact .of_emptied rfl rfl rfl

theorem State.enterIdle_kept {s : State} (h : s.camp.state.mayPend = false) : s.QueueKept s.enterIdle :=
  (s.enter_kept (.inr h)).same ⟨rfl, rfl, rfl, rfl, rfl⟩

theorem State.abortWith_kept (s : State) (kind : AbortKind) (reason : ExitReason) : s.QueueKept (s.abortWith kind reason) := by
  unfold State.abortWith
  split
  · exact s.enterHandedOver_kept _
  · split
    · cases kind with
      | immediate => exact s.close_kept _
      | orderly => exact .refl s
    · cases kind with
      | immediate => exact s.close_kept _
      | orderly =>
        dsimp only
        split
        · exact s.close_kept _
        · exact (s.enter_kept (st := .ending) (.inl rfl)).same ⟨rfl, rfl, rfl, rfl, rfl⟩

/-! ### The pass ends (R62, R84 to R90, R172) -/

theorem State.enterSettle_kept (s : State) : s.QueueKept s.enterSettle := by
  have hentered : s.QueueKept (s.enter .settle) := s.enter_kept (.inl rfl)
  unfold State.enterSettle
  dsimp only
  split
  · exact hentered.trans (State.beginPass_kept _ _)
  · exact hentered.same ⟨rfl, rfl, rfl, rfl, rfl⟩

theorem State.followSweep_kept (s : State) (o : PassOutcome) : s.QueueKept (s.followSweep o) := by
  cases o with
  | mirror | forced => exact s.beginPass_kept .mirror
  | notConverged => exact s.close_kept _
  | continues | boost | flat | closed => exact s.enterSettle_kept

theorem State.followMirror_kept (s : State) (o : PassOutcome) : s.QueueKept (s.followMirror o) := by
  cases o with
  | notConverged => exact s.close_kept _
  | continues | boost | flat | closed | mirror | forced => exact s.beginPass_kept .mirror

theorem State.endSweep_kept (s : State) : s.QueueKept s.endSweep :=
  State.QueueKept.after (State.followSweep_kept _ _) ⟨rfl, rfl, rfl, rfl, rfl⟩

theorem State.endMirror_kept (s : State) : s.QueueKept s.endMirror :=
  State.QueueKept.after (State.followMirror_kept _ _) ⟨rfl, rfl, rfl, rfl, rfl⟩

theorem State.closePass_kept {s : State} (h : s.camp.state.mayPend = false) : s.QueueKept s.closePass := by
  unfold State.closePass
  dsimp only
  split
  · exact State.QueueKept.after (State.enterAudit_kept h) ⟨rfl, rfl, rfl, rfl, rfl⟩
  · exact State.QueueKept.after (State.enterInsync_kept h) ⟨rfl, rfl, rfl, rfl, rfl⟩

theorem State.endAudit_kept {s : State} (h : s.camp.state.mayPend = false) : s.QueueKept s.endAudit := by
  unfold State.endAudit
  dsimp only
  split_ifs
  · exact State.QueueKept.after (State.enterInsync_kept h) ⟨rfl, rfl, rfl, rfl, rfl⟩
  · exact State.close_kept { s with aud.failed := s.aud.failed + 1 } _
  · exact State.QueueSame.kept ⟨rfl, rfl, rfl, rfl, rfl⟩

/-! ### FREEZE and DRAIN (R65 to R73) -/

theorem State.enterDrain_kept {s : State} (h : s.camp.state.mayPend = false) : s.QueueKept s.enterDrain :=
  (s.enter_kept (.inr h)).same ⟨rfl, rfl, rfl, rfl, rfl⟩

theorem State.freezeNext_kept {s : State} (h : s.camp.state.mayPend = false) : s.QueueKept s.freezeNext := by
  unfold State.freezeNext
  split
  · exact State.enterDrain_kept h
  · exact State.QueueSame.kept ⟨rfl, rfl, rfl, rfl, rfl⟩

theorem State.fallBack_kept {s : State} (h : s.camp.state.mayPend = false) : s.QueueKept s.fallBack := by
  unfold State.fallBack
  split
  · exact s.enter_kept (.inr h)
  · exact s.queueUnsync_kept.trans (State.beginPass_kept _ .mirror)

theorem State.takeHandover_kept {s : State} (h : s.camp.state.mayPend = false) : s.QueueKept s.takeHandover := by
  refine (s.enter_kept (st := .freeze) (.inr h)).trans ?_
  refine .trans (u := { (s.enter .freeze).raise .insyncLeave with camp.freezeList := s.freezeRegions })
    (State.QueueSame.kept ⟨rfl, rfl, rfl, rfl, rfl⟩) (State.freezeNext_kept ?_)
  rw [State.enter_eq]
  rfl

theorem State.budgetExpires_kept (s : State) : s.QueueKept s.budgetExpires := by
  have hreleased : s.QueueSame (State.release { s with camp.holdBudget := none, camp.freezeList := [] }) :=
    .trans (u := { s with camp.holdBudget := none, camp.freezeList := [] }) ⟨rfl, rfl, rfl, rfl, rfl⟩
      (State.release_queueSame _)
  unfold State.budgetExpires
  dsimp only
  split
  next hstate =>
    refine State.QueueKept.after (State.fallBack_kept ?_) (hreleased.trans ⟨rfl, rfl, rfl, rfl, rfl⟩)
    rw [State.latch_camp, hreleased.state, hstate]
    rfl
  next hstate =>
    refine State.QueueKept.after (State.fallBack_kept ?_) (hreleased.trans ⟨rfl, rfl, rfl, rfl, rfl⟩)
    rw [State.latch_camp, hreleased.state, hstate]
    rfl
  next => exact (hreleased.trans ⟨rfl, rfl, rfl, rfl, rfl⟩).kept

/-! ### Start and relink (R58, R60, R76, R77) -/

theorem State.startSteps_queueSame (s : State) (peer : PeerRecord) : s.QueueSame (s.startSteps peer) := by
  rw [State.startSteps_eq]
  exact ⟨rfl, rfl, rfl, rfl, rfl⟩

theorem State.enterPlan_kept {s : State} (h : s.camp.state.mayPend = false) : s.QueueKept s.enterPlan := by
  rw [State.enterPlan_eq]
  exact .of_state rfl (.inr h) fun hq => hq.join _

theorem State.startCampaign_kept {s : State} (h : s.camp.state.mayPend = false) (peer : PeerRecord) :
    s.QueueKept (s.startCampaign peer) := by
  have hsteps := s.startSteps_queueSame peer
  have hnone : (s.startSteps peer).camp.state.mayPend = false := by rw [hsteps.state, h]
  unfold State.startCampaign
  dsimp only
  split
  · exact State.QueueKept.after (State.enterPlan_kept hnone) hsteps
  · exact (State.QueueKept.after (State.enter_kept _ (.inr hnone)) hsteps).same ⟨rfl, rfl, rfl, rfl, rfl⟩

theorem State.restart_kept (s : State) (peer : PeerRecord) : s.QueueKept (s.restart peer) := by
  by_cases h : s.RestartFits peer
  · rw [State.restart_fits h, State.enterPlan_eq, State.startSteps_eq]
    exact .of_none rfl fun _ => TxQueue.Law.join (TxQueue.Law.of_empty rfl rfl) _
  · rw [State.restart_idle h]
    exact .of_emptied rfl rfl rfl

theorem State.decideRelink_kept (s : State) (peer : PeerRecord) : s.QueueKept (s.decideRelink peer) := by
  unfold State.decideRelink
  dsimp only
  split
  · exact State.QueueSame.kept ⟨rfl, rfl, rfl, rfl, rfl⟩
  · exact State.restart_kept { s with camp.peerWait := none } peer

theorem State.tryRelink_kept (s : State) : s.QueueKept s.tryRelink := by
  unfold State.tryRelink
  split
  · split
    · exact s.decideRelink_kept _
    · exact .refl s
  · exact .refl s

theorem State.refuseResume_kept (s : State) : s.QueueKept s.refuseResume := by
  unfold State.refuseResume
  split
  · split
    · exact s.restart_kept _
    · exact .refl s
  · exact .refl s

theorem State.resume_kept (s : State) : s.QueueKept s.resume := by
  unfold State.resume
  dsimp only
  generalize (if s.camp.stalledFrom = .sweep || s.camp.stalledFrom = .settle then SenderState.sweep else .mirror) = st
  have hbegun := State.beginPass_kept { s with camp.resumeWait := none, camp.resumeRepeat := none } st
  split
  · exact hbegun.trans (State.queueUnsync_kept _)
  · exact hbegun

/-! ### Link loss (R75, R76, R129) -/

theorem State.lossSteps_kept (s : State) : s.QueueKept s.lossSteps := by
  rw [State.lossSteps_eq]
  exact .of_txq rfl rfl fun _ => TxQueue.Law.of_empty rfl rfl

theorem State.stall_kept (s : State) : s.QueueKept s.stall :=
  (s.enter_kept (st := .stalled) (.inl rfl)).same ⟨rfl, rfl, rfl, rfl, rfl⟩

/-- A campaign under way ends at a link loss or stalls. -/
theorem State.lossOutcome_kept (s : State) :
    s.QueueKept (if s.cfg.relink = .latched then s.lossSteps.close .linkLost else s.lossSteps.stall) := by
  split
  · exact s.lossSteps_kept.trans (State.close_kept _ _)
  · exact s.lossSteps_kept.trans (State.stall_kept _)

theorem State.campaignLinkLoss_kept (s : State) : s.QueueKept s.campaignLinkLoss := by
  unfold State.campaignLinkLoss
  cases s.camp.state with
  | idle | armed | handedOver => exact .refl s
  | stalled =>
    dsimp only
    split
    · exact State.QueueSame.kept ⟨rfl, rfl, rfl, rfl, rfl⟩
    · exact .refl s
  | plan | ending => exact s.lossSteps_kept.trans (State.close_kept _ _)
  | drain =>
    dsimp only
    split
    · exact s.enterHandedOver_kept _
    · exact s.lossOutcome_kept
  | insync => exact State.lossOutcome_kept (s.raise .insyncLeave)
  | delay | sweep | settle | mirror | audit | freeze => exact s.lossOutcome_kept

theorem State.linkDown_kept (s : State) : s.QueueKept s.linkDown := by
  have hcut : s.QueueSame s.cut := ⟨rfl, rfl, rfl, rfl, rfl⟩
  have hlatched : s.QueueSame (s.cut.latch .linkLost) := ⟨rfl, rfl, rfl, rfl, rfl⟩
  cases hopen : s.link.state.isOpen with
  | false =>
    rw [State.linkDown_closed hopen]
    exact hcut.kept
  | true =>
    cases hrole : s.mgmt.role with
    | sender =>
      rw [State.linkDown_sender hopen hrole]
      exact State.QueueKept.after (State.campaignLinkLoss_kept _) hlatched
    | receiver =>
      rw [State.linkDown_receiver hopen hrole]
      exact (hlatched.trans (State.receiverLinkLoss_queueSame _)).kept

/-! ### The link's rise (R130, R132, R134) -/

theorem State.tryTrain_queueSame (s : State) : s.QueueSame s.tryTrain := by
  unfold State.tryTrain
  split <;> exact ⟨rfl, rfl, rfl, rfl, rfl⟩

theorem State.enterUp_kept (s : State) : s.QueueKept s.enterUp :=
  State.QueueKept.after (State.tryRelink_kept s.raisedUp) ⟨rfl, rfl, rfl, rfl, rfl⟩

theorem State.enterBlanking_kept (s : State) : s.QueueKept s.enterBlanking := by
  unfold State.enterBlanking
  dsimp only
  split
  · exact State.QueueKept.after (State.enterUp_kept _) ⟨rfl, rfl, rfl, rfl, rfl⟩
  · exact State.QueueSame.kept ⟨rfl, rfl, rfl, rfl, rfl⟩

theorem State.returnUp_kept (s : State) : s.QueueKept s.returnUp := by
  unfold State.returnUp
  dsimp only
  split
  · split
    · exact State.QueueKept.after (State.linkDown_kept _) ⟨rfl, rfl, rfl, rfl, rfl⟩
    · exact State.QueueSame.kept ⟨rfl, rfl, rfl, rfl, rfl⟩
  · exact State.QueueSame.kept ⟨rfl, rfl, rfl, rfl, rfl⟩

end Sys2Proof.Machine
end

section
/-! SUPPORT. The memory path, the copy engine, the ordered stream and the management line keep the two laws (chapters 1, 3, 6, 7, 8
and 11): an entry is appended only with room, one that leaves is followed by a refill, and one changed in place keeps its number. -/

namespace Sys2Proof.Machine

/-! ### The queue alone (R113, R114) -/

theorem State.append_kept {s : State} (hroom : s.txq.hasRoom = true) (b : TxBody) :
    s.QueueKept { s with txq := s.txq.append b } := .of_txq rfl rfl fun h => h.append hroom b

theorem State.remove_kept (s : State) (id : Nat) : s.QueueKept { s with txq := s.txq.remove id } :=
  .of_txq rfl rfl fun h => h.remove id

/-- One entry changed in place. -/
theorem State.replace_kept (s : State) (id : Nat) (f : TxEntry → TxEntry) (hf : ∀ e, (f e).id = e.id) :
    s.QueueKept { s with txq.queue := s.txq.queue.map fun q => if q.id = id then f q else q } :=
  .of_txq rfl rfl fun h => h.map fun e => by
    split
    · exact hf e
    · rfl

/-! ### The near port (R1 to R11) -/

theorem State.judgeSender_queueSame (s : State) (kind : XferKind) (tile : Nat) : s.QueueSame (s.judgeSender kind tile).1 := by
  unfold State.judgeSender
  split_ifs <;> exact ⟨rfl, rfl, rfl, rfl, rfl⟩

theorem State.judgeRead_queueSame (s : State) (policy : Policy) (tile : Nat) : s.QueueSame (s.judgeRead policy tile).1 := by
  unfold State.judgeRead
  split
  · exact .refl s
  · split
    · exact .refl s
    · split
      · exact .refl s
      · split
        · exact ⟨rfl, rfl, rfl, rfl, rfl⟩
        · split
          · exact .refl s
          · exact s.demandRead_queueSame tile

theorem State.judgeActive_queueSame (s : State) (kind : XferKind) (tile : Nat) : s.QueueSame (s.judgeActive kind tile).1 := by
  unfold State.judgeActive
  dsimp only
  split
  · exact .refl s
  · split
    · exact ⟨rfl, rfl, rfl, rfl, rfl⟩
    · exact s.judgeRead_queueSame _ tile

theorem State.judge_queueSame (s : State) (kind : XferKind) (tile : Nat) : s.QueueSame (s.judge kind tile).1 := by
  unfold State.judge
  cases s.mgmt.role with
  | sender => exact s.judgeSender_queueSame kind tile
  | receiver =>
    dsimp only
    split
    · exact s.judgeActive_queueSame kind tile
    · exact .refl s

theorem State.actOn_queueSame (s : State) (x : Transfer) (lock : Option Addr) (j : Judgement) :
    s.QueueSame (s.actOn x lock j) := by cases j <;> exact ⟨rfl, rfl, rfl, rfl, rfl⟩

theorem State.arrive_queueSame (s : State) (x : Transfer) : s.QueueSame (s.arrive x) := by
  unfold State.arrive
  split
  · exact ⟨rfl, rfl, rfl, rfl, rfl⟩
  · split
    · exact ⟨rfl, rfl, rfl, rfl, rfl⟩
    · exact (s.judge_queueSame _ _).trans (State.actOn_queueSame _ _ _ _)

/-! ### Tracking and the grant of PASS (R45 to R52) -/

theorem State.dirtyAgain_kept (s : State) (tile : Nat) : s.QueueKept ((s.markDirty tile).redirty tile) :=
  (s.markDirty_kept tile).same ⟨rfl, rfl, rfl, rfl, rfl⟩

theorem State.degrade_kept (s : State) (tile : Nat) : s.QueueKept (s.degrade tile) :=
  State.QueueKept.after (State.markDirty_kept _ tile) ⟨rfl, rfl, rfl, rfl, rfl⟩

theorem State.trackMirroring_kept (s : State) (x : Transfer) : s.QueueKept (s.trackMirroring x) := by
  unfold State.trackMirroring
  dsimp only
  split_ifs with _ _ _ hroom
  · exact s.dirtyAgain_kept _
  · exact s.markDirty_kept _
  · exact .refl s
  · exact State.append_kept hroom _
  · exact s.degrade_kept _

theorem State.track_kept (s : State) (x : Transfer) : s.QueueKept (s.track x) := by
  unfold State.track
  dsimp only
  split
  · cases s.category with
    | untracked => exact .refl s
    | dirtying => exact s.dirtyAgain_kept _
    | mirroring => exact s.trackMirroring_kept x
  · exact .refl s

theorem State.grantPass_kept (s : State) : s.QueueKept s.grantPass := by
  unfold State.grantPass
  split
  · exact .refl s
  next x rest _ =>
    have htracked : s.QueueKept (State.track { s with mem.queue := rest, mon.stall := .stopped } x) :=
      State.QueueKept.after (State.track_kept _ x) ⟨rfl, rfl, rfl, rfl, rfl⟩
    dsimp only
    cases x.kind <;> exact htracked.same ⟨rfl, rfl, rfl, rfl, rfl⟩

/-! ### The grant of COPY (R94 to R102) -/

theorem State.hasRoom_of_mayBegin {s : State} (h : s.mayBegin = true) : s.txq.hasRoom = true :=
  (Bool.and_eq_true_iff.mp h).2

theorem State.beginCopy_kept {s : State} (hroom : s.txq.hasRoom = true) (tile : Nat) : s.QueueKept (s.beginCopy tile) := by
  have hbegun := (State.append_kept hroom (.tile tile)).same (t := State.issue
    { s with
      eng.inFlight := s.eng.inFlight ++ [InFlight.new tile .copy]
      map := clearBit s.map tile
      txq := s.txq.append (.tile tile) } (.copy tile 0) .readLine (lineAddr tile 0) 0 0) ⟨rfl, rfl, rfl, rfl, rfl⟩
  unfold State.beginCopy
  dsimp only
  split
  · exact hbegun.trans (State.leaveInsync_kept _)
  · exact hbegun

theorem State.sweepPast_queueSame (s : State) (tile : Nat) : s.QueueSame (s.sweepPast tile) := by
  rw [State.sweepPast_frame]
  exact ⟨rfl, rfl, rfl, rfl, rfl⟩

theorem State.auditPast_queueSame (s : State) (tile : Nat) : s.QueueSame (s.auditPast tile) := by
  rw [State.auditPast_frame]
  exact ⟨rfl, rfl, rfl, rfl, rfl⟩

theorem State.askAudit_queueSame (s : State) : s.QueueSame s.askAudit := by
  rw [State.askAudit_frame]
  exact ⟨rfl, rfl, rfl, rfl, rfl⟩

/-- The room in the queue is a matter of its entries. -/
theorem State.QueueSame.hasRoom {s t : State} (h : s.QueueSame t) (hroom : s.txq.hasRoom = true) : t.txq.hasRoom = true := by
  rw [TxQueue.hasRoom, h.queue]
  exact hroom

theorem State.beginWalk_kept {s t : State} (hroom : s.txq.hasRoom = true) (h : s.beginWalk = some t) : s.QueueKept t := by
  have copied : ∀ {u : State} {tile : Nat}, u.beginCopy tile = t → s.QueueSame u → s.QueueKept t := by
    rintro u tile rfl hsu
    exact .after (State.beginCopy_kept (hsu.hasRoom hroom) tile) hsu
  unfold State.beginWalk at h
  split at h
  · obtain ⟨tile, -, htile⟩ := Option.map_eq_some_iff.mp h
    exact copied htile (s.sweepPast_queueSame tile)
  · obtain ⟨tile, -, htile⟩ := Option.map_eq_some_iff.mp h
    exact copied htile (s.sweepPast_queueSame tile)
  · cases hscan : s.scanOffer with
    | some tile =>
      rw [hscan] at h
      exact copied (Option.some.inj h) ⟨rfl, rfl, rfl, rfl, rfl⟩
    | none =>
      rw [hscan] at h
      obtain ⟨tile, -, rfl⟩ := Option.map_eq_some_iff.mp h
      exact ((s.auditPast_queueSame tile).trans ⟨rfl, rfl, rfl, rfl, rfl⟩).kept
  · cases hoffer : s.freezeOffer with
    | some tile =>
      rw [hoffer] at h
      exact copied (Option.some.inj h) ⟨rfl, rfl, rfl, rfl, rfl⟩
    | none => simp [hoffer] at h
  · split at h
    · exact copied (Option.some.inj h) ⟨rfl, rfl, rfl, rfl, rfl⟩
    · simp at h
  · simp at h

theorem State.grantFirst_kept {s : State} (hroom : s.txq.hasRoom = true) : s.QueueKept s.grantFirst.1 := by
  unfold State.grantFirst
  split
  next tile rest _ =>
    exact .after (State.beginCopy_kept (s := { s with eng.demandQueue := rest }) hroom tile) ⟨rfl, rfl, rfl, rfl, rfl⟩
  next rest _ =>
    have hasked : s.QueueSame (State.askAudit { s with eng.demandQueue := rest }) :=
      .trans (u := { s with eng.demandQueue := rest }) ⟨rfl, rfl, rfl, rfl, rfl⟩ (State.askAudit_queueSame _)
    dsimp only
    split
    next hbegun => exact .after (State.beginWalk_kept (hasked.hasRoom hroom) hbegun) hasked
    next => exact hasked.kept

theorem State.grantCopy_kept {s : State} (h : s.copyWaits = true) : s.QueueKept s.grantCopy.1 := by
  obtain ⟨-, hready⟩ := Bool.and_eq_true_iff.mp h
  unfold State.grantCopy
  split
  · exact State.QueueSame.kept ⟨rfl, rfl, rfl, rfl, rfl⟩
  next hnone =>
    rw [hnone, Option.isSome_none, Bool.false_or] at hready
    exact State.grantFirst_kept (State.hasRoom_of_mayBegin (Bool.and_eq_true_iff.mp hready).1)

theorem State.grantInternal_kept {s : State} (h : s.internalWaits = true) : s.QueueKept s.grantInternal.1 := by
  rw [State.internalWaits, Bool.or_assoc] at h
  unfold State.grantInternal
  split
  next hnext =>
    split
    · exact (s.grantApply_queueSame _ _ _).kept
    next hno =>
      have hroom : (s.mgmt.role == .receiver && s.mem.internalRoom) = false := by simpa [State.applyWaits, hnext] using hno
      refine State.grantCopy_kept ?_
      simpa only [State.applyWaits, State.fillWaits, hroom, Bool.false_and, Bool.false_or] using h
  next hnone hnext =>
    split
    · exact State.QueueSame.kept ⟨rfl, rfl, rfl, rfl, rfl⟩
    next hno =>
      refine State.grantCopy_kept (by simpa [State.applyWaits, hnone, hno] using h)
  next hnone hnofill =>
    refine State.grantCopy_kept (by simpa [State.applyWaits, State.fillWaits, hnone, hnofill] using h)

theorem State.arbitrate_kept (s : State) : s.QueueKept s.arbitrate := by
  unfold State.arbitrate
  dsimp only
  split
  next h =>
    obtain ⟨hwaits, -⟩ := Bool.and_eq_true_iff.mp (Bool.and_eq_true_iff.mp h).1
    have hgranted := State.grantInternal_kept hwaits
    split
    · exact hgranted.same ⟨rfl, rfl, rfl, rfl, rfl⟩
    · split
      · exact (hgranted.trans (State.grantPass_kept _)).same ⟨rfl, rfl, rfl, rfl, rfl⟩
      · exact hgranted
  next =>
    split
    · exact s.grantPass_kept.same ⟨rfl, rfl, rfl, rfl, rfl⟩
    · exact .refl s

end Sys2Proof.Machine
end

section
/-! SUPPORT. The far port's terminations, the ordered stream, the frames that arrive and the management line keep the two laws
(chapters 1, 6, 7, 8 and 11). -/

namespace Sys2Proof.Machine

/-! ### Terminations (R50, R103 to R109, R170) -/

theorem State.mirrorEnd_kept (s : State) (tag : Fin 16) (addr : Addr) (term : Term) : s.QueueKept (s.mirrorEnd tag addr term) := by
  unfold State.mirrorEnd
  split
  · exact .refl s
  · cases term with
    | done data => exact s.replace_kept _ _ fun _ => rfl
    | fault | retry => exact (s.remove_kept _).trans (State.dirtyAgain_kept _ _)

theorem State.passTermination_kept (s : State) (tag : Fin 16) (x : FarTransfer) (term : Term) :
    s.QueueKept (s.passTermination tag x term) := by
  refine (s.mirrorEnd_kept tag x.addr term).same ?_
  unfold State.passTermination
  dsimp only
  split <;> exact ⟨rfl, rfl, rfl, rfl, rfl⟩

theorem State.cutBack_kept (s : State) (tile : Nat) : s.QueueKept (s.cutBack tile) := by
  unfold State.cutBack
  split
  · exact .refl s
  · split
    · exact s.remove_kept _
    · exact s.replace_kept _ _ fun _ => rfl

theorem State.strike_kept (s : State) (tile : Nat) : s.QueueKept (s.strike tile) := by
  unfold State.strike
  split
  · split
    · exact State.QueueSame.kept ⟨rfl, rfl, rfl, rfl, rfl⟩
    · exact s.close_kept _
  · split
    · exact .refl s
    · exact State.QueueKept.after (State.queueMark_kept _ _) ⟨rfl, rfl, rfl, rfl, rfl⟩

theorem State.lineFault_kept (s : State) (tile : Nat) : s.QueueKept (s.lineFault tile) := by
  refine .trans (.same ((s.cutBack_kept tile).trans (State.markDirty_kept _ tile)) ?_) (State.strike_kept _ tile)
  exact ⟨rfl, rfl, rfl, rfl, rfl⟩

theorem State.lineRetry_kept (s : State) (e : InFlight) (line : Nat) : s.QueueKept (s.lineRetry e line) := by
  unfold State.lineRetry
  dsimp only
  split
  · exact s.lineFault_kept _
  · exact State.QueueSame.kept ⟨rfl, rfl, rfl, rfl, rfl⟩

theorem State.lineDone_kept (s : State) (e : InFlight) (line : Nat) (data : Line) : s.QueueKept (s.lineDone e line data) := by
  unfold State.lineDone State.finishAudit
  dsimp only
  split
  · exact State.QueueKept.after (State.queueMark_kept _ _) ⟨rfl, rfl, rfl, rfl, rfl⟩
  · exact State.QueueSame.kept ⟨rfl, rfl, rfl, rfl, rfl⟩

theorem State.copyTermination_kept (s : State) (tile line : Nat) (term : Term) :
    s.QueueKept (s.copyTermination tile line term) := by
  unfold State.copyTermination
  split
  · exact .refl s
  · cases term with
    | done data => exact s.lineDone_kept _ _ _
    | retry => exact s.lineRetry_kept _ _
    | fault => exact s.lineFault_kept _

theorem State.routeTermination_kept (s : State) (x : FarTransfer) (term : Term) : s.QueueKept (s.routeTermination x term) := by
  unfold State.routeTermination
  cases x.owner with
  | pass tag => exact s.passTermination_kept tag x term
  | copy tile line => exact s.copyTermination_kept tile line term
  | apply n => exact (s.applyTermination_queueSame n term).kept
  | fill tile line => exact (s.fillTermination_queueSame tile line term).kept
  | abandoned => exact .refl s

/-! ### Reports about tiles (R106, R171) -/

theorem State.takeFaulted_kept (s : State) (tile : Nat) : s.QueueKept (s.takeFaulted tile) := by
  unfold State.takeFaulted
  split
  · refine .trans ((s.markDirty_kept tile).same ?_) (State.strike_kept _ tile)
    exact ⟨rfl, rfl, rfl, rfl, rfl⟩
  · exact .refl s

theorem State.mismatch_kept (s : State) (tile : Nat) : s.QueueKept (s.mismatch tile) :=
  (s.markDirty_kept tile).same ⟨rfl, rfl, rfl, rfl, rfl⟩

theorem State.takeResult_kept (s : State) (seq : Seq) (tile : Nat) (mismatched : Bool) :
    s.QueueKept (s.takeResult seq tile mismatched) := by
  unfold State.takeResult
  split
  · exact .refl s
  · dsimp only
    split
    · exact State.QueueKept.after (State.mismatch_kept _ _) ⟨rfl, rfl, rfl, rfl, rfl⟩
    · exact State.QueueSame.kept ⟨rfl, rfl, rfl, rfl, rfl⟩

theorem State.takeDemandFrame_queueSame (s : State) (tile : Nat) : s.QueueSame (s.takeDemandFrame tile) := by
  unfold State.takeDemandFrame
  split <;> exact ⟨rfl, rfl, rfl, rfl, rfl⟩

/-! ### The ordered stream (R116 to R119) -/

theorem State.takeCredit_queueSame (s : State) (n : Nat) : s.QueueSame (s.takeCredit n) := by
  unfold State.takeCredit
  split <;> exact ⟨rfl, rfl, rfl, rfl, rfl⟩

theorem State.recoverCredit_queueSame (s : State) (total : Seq) : s.QueueSame (s.recoverCredit total) := by
  rw [State.recoverCredit_frame]
  exact ⟨rfl, rfl, rfl, rfl, rfl⟩

theorem State.complete_queueSame (s : State) (tile : Nat) : s.QueueSame (s.complete tile) := by
  rw [State.complete_frame]
  exact ⟨rfl, rfl, rfl, rfl, rfl⟩

theorem State.leaveQueue_kept (s : State) (e : TxEntry) : s.QueueKept (s.leaveQueue e) := by
  refine (s.remove_kept e.id).trans ?_
  unfold State.leaveQueue State.handOff
  cases e.body with
  | tile tile => exact (State.complete_queueSame _ tile).kept
  | handover => exact State.enterHandedOver_kept _ _
  | tileCut | mirror | digest | syncMark | quarantine | plan => exact .refl _

theorem State.foldl_leaveQueue_kept (es : List TxEntry) (s : State) : s.QueueKept (es.foldl State.leaveQueue s) := by
  induction es generalizing s with
  | nil => exact .refl s
  | cons e es ih => exact (s.leaveQueue_kept e).trans (ih _)

theorem State.takeApplied_kept (s : State) (n : Seq) : s.QueueKept (s.takeApplied n) := by
  unfold State.takeApplied
  split
  · exact .refl s
  next covered after _ =>
    exact State.QueueKept.after (State.foldl_leaveQueue_kept _ { s with txq.record := after }) ⟨rfl, rfl, rfl, rfl, rfl⟩

theorem State.sendEntry_kept (s : State) (e : TxEntry) (body : OrderedBody) : s.QueueKept (s.sendEntry e body) :=
  (s.replace_kept e.id (fun q => { q with sent := q.sent + 1 }) fun _ => rfl).same ⟨rfl, rfl, rfl, rfl, rfl⟩

theorem State.transmitOrdered_kept {s t : State} (h : s.transmitOrdered = some t) : s.QueueKept t := by
  unfold State.transmitOrdered at h
  split at h
  · cases hmark : s.txq.resyncMark with
    | some sync =>
      rw [hmark] at h
      obtain rfl := Option.some.inj h
      exact State.QueueSame.kept ⟨rfl, rfl, rfl, rfl, rfl⟩
    | none =>
      cases hhead : s.txq.head with
      | some e =>
        rw [hmark, hhead] at h
        obtain ⟨body, -, rfl⟩ := Option.map_eq_some_iff.mp h
        exact s.sendEntry_kept e body
      | none => simp [hmark, hhead] at h
  · simp at h

theorem State.transmitSender_kept (s : State) : s.QueueKept s.transmitSender := by
  unfold State.transmitSender
  cases s.link.control.find? (Control.sendable s.link.state) with
  | some c => exact State.QueueSame.kept ⟨rfl, rfl, rfl, rfl, rfl⟩
  | none =>
    cases (if s.link.state = .up then s.txq.resync else none) with
    | some number => exact State.QueueSame.kept ⟨rfl, rfl, rfl, rfl, rfl⟩
    | none =>
      cases hsend : s.transmitOrdered with
      | some t => exact State.transmitOrdered_kept hsend
      | none =>
        dsimp only
        split <;> exact State.QueueSame.kept ⟨rfl, rfl, rfl, rfl, rfl⟩

theorem State.transmitNext_kept (s : State) : s.QueueKept s.transmitNext := by
  unfold State.transmitNext
  cases s.mgmt.role with
  | sender => exact s.transmitSender_kept
  | receiver => exact s.transmitReceiver_queueSame.kept

/-! ### The frames of either side (R136, R141, R150 to R157) -/

/-- A frame that one role takes. -/
theorem State.onFrame_kept (s : State) (role : Role) {f : State → State} (hf : ∀ u : State, u.QueueKept (f u)) :
    s.QueueKept (s.onFrame role f) := by
  have hgood : s.QueueSame s.goodFrame := ⟨rfl, rfl, rfl, rfl, rfl⟩
  unfold State.onFrame
  cases s.link.state with
  | down | training => exact .refl s
  | blanking => exact hgood.kept
  | up | cooldown =>
    dsimp only
    split
    · exact .after (hf _) hgood
    · exact hgood.kept

theorem State.senderHello_kept (s : State) (p : PeerRecord) : s.QueueKept (s.senderHello p) := by
  unfold State.senderHello
  split
  · exact s.linkDown_kept
  · exact .after (State.tryRelink_kept _) (s.recoverCredit_queueSame _)

theorem State.receiverHello_queueSame (s : State) (p : PeerRecord) : s.QueueSame (s.receiverHello p) := by
  unfold State.receiverHello
  split
  · exact s.takeAbandon_queueSame
  · exact .refl s

theorem State.takeHello_kept (s : State) (b : HelloBody) : s.QueueKept (s.takeHello b) := by
  unfold State.takeHello
  split
  · exact .refl s
  · dsimp only
    split
    · exact State.QueueKept.after (State.senderHello_kept _ _) ⟨rfl, rfl, rfl, rfl, rfl⟩
    · exact State.QueueKept.after (State.receiverHello_queueSame _ _).kept ⟨rfl, rfl, rfl, rfl, rfl⟩

theorem State.takePlanAck_kept (s : State) (number : Seq) : s.QueueKept (s.takePlanAck number) := by
  unfold State.takePlanAck
  split
  · exact State.QueueKept.after (State.beginPass_kept _ _) ⟨rfl, rfl, rfl, rfl, rfl⟩
  · exact .refl s

theorem State.takeResume_queueSame (s : State) (number next : Seq) : s.QueueSame (s.takeResume number next) := by
  unfold State.takeResume
  split <;> exact ⟨rfl, rfl, rfl, rfl, rfl⟩

theorem State.creditLost_queueSame (s : State) (sentTotal : Seq) : s.QueueSame (s.creditLost sentTotal) := by
  unfold State.creditLost
  dsimp only
  split <;> exact ⟨rfl, rfl, rfl, rfl, rfl⟩

theorem State.renumber_queueSame (s : State) (number : Seq) : s.QueueSame (s.renumber number) := by
  unfold State.renumber
  dsimp only
  split <;> exact ⟨rfl, rfl, rfl, rfl, rfl⟩

theorem State.arriveOrdered_queueSame (s : State) (seq : Seq) (body : OrderedBody) : s.QueueSame (s.arriveOrdered seq body) := by
  unfold State.arriveOrdered
  dsimp only
  split_ifs <;> exact ⟨rfl, rfl, rfl, rfl, rfl⟩

theorem State.countBad_queueSame (s : State) : s.QueueSame s.countBad := by
  unfold State.countBad
  split_ifs <;> exact ⟨rfl, rfl, rfl, rfl, rfl⟩

/-! ### The management line (R22 to R27, R55, R149, R176) -/

theorem State.changeRole_kept (s : State) (role : Role) : s.QueueKept (s.changeRole role) := by
  unfold State.changeRole
  dsimp only
  rw [State.helloOnChange_eq]
  exact .of_emptied rfl rfl rfl

theorem State.takeRole_kept (s : State) (role : Role) : s.QueueKept (s.takeRole role) := by
  unfold State.takeRole
  split
  · exact .refl s
  · exact s.changeRole_kept _
  · exact s.idleReceiver_queueSame.kept
  · exact .after (State.changeRole_kept _ _) s.idleReceiver_queueSame

theorem State.selectOnSender_kept (s : State) (b : Bank) : s.QueueKept (s.selectOnSender b) := by
  unfold State.selectOnSender
  split
  case h_3 hstate | h_4 hstate =>
    exact fun _ => ⟨.of_mayPend (by show s.camp.state.mayPend = true; rw [hstate]; rfl), id⟩
  all_goals exact State.QueueSame.kept ⟨rfl, rfl, rfl, rfl, rfl⟩

theorem State.followEnable_kept (s : State) : s.QueueKept s.followEnable := by
  unfold State.followEnable
  split_ifs
  · exact s.tryTrain_queueSame.kept
  · exact .refl s
  · exact s.linkDown_kept

theorem State.cueStart_kept {s : State} (h : s.camp.state = .armed) : s.QueueKept s.cueStart := by
  unfold State.cueStart
  split
  · exact State.QueueSame.kept ⟨rfl, rfl, rfl, rfl, rfl⟩
  · exact State.startCampaign_kept (by rw [h]; rfl) _

theorem State.cueRise_kept (s : State) : s.QueueKept s.cueRise := by
  unfold State.cueRise
  cases s.cfg.cueMode with
  | off => exact .refl s
  | start =>
    dsimp only
    split
    next harmed => exact State.cueStart_kept harmed
    next => exact .refl s
  | startAbort =>
    dsimp only
    split
    next harmed => exact State.cueStart_kept harmed
    next =>
      split
      · exact s.abortWith_kept _ _
      · exact .refl s
  | startBreak =>
    dsimp only
    split
    next harmed => exact State.cueStart_kept harmed
    next => split <;> exact State.QueueSame.kept ⟨rfl, rfl, rfl, rfl, rfl⟩

/-! ### Resets (R18, R128, R183) -/

theorem State.softLists_queueSame (s : State) (ran : Bool) (removed : Nat) : s.QueueSame (s.softLists ran removed) := by
  unfold State.softLists
  dsimp only
  split_ifs <;> exact ⟨rfl, rfl, rfl, rfl, rfl⟩

theorem State.soft_kept (s : State) : s.QueueKept s.soft := by
  have hengines : s.QueueKept ((s.recordReset .softReset).softPath).softEngines := .of_emptied rfl rfl rfl
  refine .trans (.same hengines (State.softLists_queueSame _ s.runs s.rx.frames)) ?_
  exact State.QueueSame.kept ⟨rfl, rfl, rfl, rfl, rfl⟩

end Sys2Proof.Machine
end

section
/-! SUPPORT. Loss handling keeps the queue to its law (R113, R114, R122, R123): the marks queued again take no more places than the
entries that left freed, and a fall from INSYNC adds one mark only where an entry that is not queued again has left. -/

namespace Sys2Proof.Machine

/-! ### The entries that stay and the marks queued again -/

/-- An item that joins keeps the numbers apart from those of entries still to be placed. -/
theorem TxQueue.join_numbered {q : TxQueue} {extra : List TxEntry} (h : Numbered (q.queue ++ extra) q.nextEntry) (b : TxBody) :
    Numbered ((q.join b).queue ++ extra) (q.join b).nextEntry := by
  rcases q.join_cases b with ⟨-, -, hjoin⟩ | ⟨-, hjoin⟩ <;> rw [hjoin]
  · refine (h.append b).perm ?_
    rw [TxQueue.append_queue, List.append_assoc, List.append_assoc]
    exact List.perm_append_comm.append_left _
  · exact h

theorem TxQueue.join_length_le (q : TxQueue) (b : TxBody) : (q.join b).queue.length ≤ q.queue.length + 1 := by
  rcases q.join_cases b with ⟨-, -, hjoin⟩ | ⟨-, hjoin⟩ <;> rw [hjoin]
  · exact (List.length_append).le
  · exact Nat.le_succ _

theorem requeuedMarks_ids (removed : List TxEntry) :
    (requeuedMarks removed).map (fun e => e.id) = (removed.filter fun e => e.body.isRequeued).map fun e => e.id := by
  rw [requeuedMarks, List.map_map]
  rfl

theorem requeuedMarks_length (removed : List TxEntry) :
    (requeuedMarks removed).length = (removed.filter fun e => e.body.isRequeued).length := List.length_map _

/-- Marks that are lost and nothing else leave the tiles and the campaign alone. -/
theorem State.treatAll_requeued {removed : List TxEntry} (h : ∀ e ∈ removed, e.body.isRequeued = true) (lost : List SentItem)
    (s : State) : s.treatAll removed lost = s := by
  induction removed with
  | nil => rfl
  | cons e removed ih =>
    obtain ⟨hmark, hothers⟩ := List.forall_mem_cons.mp h
    have hsame : s.treatLost e lost = s := by
      rcases s.treatLost_cases e lost with ⟨-, hsame⟩ | ⟨tile, htile, -⟩
      · exact hsame
      · rw [TxBody.not_requeued_of_lostTile htile] at hmark
        exact Bool.noConfusion hmark
    rw [State.treatAll, List.foldl_cons, hsame]
    exact ih hothers

section
variable {s : State} {kept lost : List SentItem} {number : Seq}

theorem State.kept_lost_perm : (s.keptEntries lost ++ s.lostEntries lost).Perm s.txq.queue :=
  List.perm_append_comm.trans (List.filter_append_perm _ _)

theorem State.kept_lost_length : (s.keptEntries lost).length + (s.lostEntries lost).length = s.txq.queue.length := by
  rw [← List.length_append]
  exact State.kept_lost_perm.length_eq

/-- The entries that stay and the marks queued again have numbers of their own. -/
theorem State.kept_marks_numbered (h : Numbered s.txq.queue s.txq.nextEntry) :
    Numbered (s.keptEntries lost ++ requeuedMarks (s.lostEntries lost)) s.txq.nextEntry := by
  have hsub : Numbered (s.keptEntries lost ++ (s.lostEntries lost).filter fun e => e.body.isRequeued) s.txq.nextEntry :=
    (h.perm State.kept_lost_perm).sublist (List.filter_sublist.append_left _)
  refine ⟨?_, fun e he => ?_⟩
  · rw [List.map_append, requeuedMarks_ids, ← List.map_append]
    exact hsub.1
  · rcases List.mem_append.mp he with he | he
    · exact hsub.2 e (List.mem_append_left _ he)
    · obtain ⟨d, hd, rfl⟩ := List.mem_map.mp he
      exact hsub.2 d (List.mem_append_right _ hd)

/-- A fall from INSYNC at loss handling: the UNSYNC mark alone has joined, and an entry that is not queued again has left. -/
theorem State.lossTreated_fallen (hpending : s.PendingLaw) (hfall : (s.lossCut kept lost).Fallen (s.lossTreated kept lost)) :
    (s.lossTreated kept lost).txq = (s.lossCut kept lost).txq.join (.syncMark false)
      ∧ (requeuedMarks (s.lostEntries lost)).length < (s.lostEntries lost).length := by
  obtain ⟨hinsync, hcamp, -, plans, hmarks, hempty⟩ := hfall
  have hnone : s.tables.pending = none := hpending.none (by
    have hstate : s.camp.state = .insync := hinsync
    rw [hstate]
    rfl)
  refine ⟨by rw [hmarks, hempty hnone]; rfl, ?_⟩
  rw [requeuedMarks_length]
  by_contra hall
  have hfilter : (s.lostEntries lost).filter (fun e => e.body.isRequeued) = s.lostEntries lost :=
    List.filter_sublist.eq_of_length_le (Nat.le_of_not_lt hall)
  have hsame : s.lossTreated kept lost = s.lossCut kept lost := State.treatAll_requeued (List.filter_eq_self.mp hfilter) lost _
  rw [hsame] at hcamp
  have hmirror : (s.lossCut kept lost).camp.state = .mirror := by rw [hcamp]
  exact absurd (hmirror.symm.trans hinsync) (by decide)

/-- When the marks are queued again there is room for them, and their numbers are not taken. -/
theorem State.lossCounted_room (hpending : s.PendingLaw) (hlaw : s.txq.Law) :
    (s.lossCounted kept lost).txq.queue.length + (requeuedMarks (s.lostEntries lost)).length ≤ 256
      ∧ Numbered ((s.lossCounted kept lost).txq.queue ++ requeuedMarks (s.lostEntries lost))
        (s.lossCounted kept lost).txq.nextEntry := by
  obtain ⟨hsize, -, hnumbers⟩ := hlaw
  have hcounted : (s.lossCounted kept lost).txq = (s.lossTreated kept lost).txq := rfl
  have hcut : (s.lossCut kept lost).txq.queue = s.keptEntries lost := rfl
  have hlength := State.kept_lost_length (s := s) (lost := lost)
  have hapart : Numbered ((s.lossCut kept lost).txq.queue ++ requeuedMarks (s.lostEntries lost))
      (s.lossCut kept lost).txq.nextEntry := State.kept_marks_numbered hnumbers
  rw [hcounted]
  rcases (State.lossTreated_staysOrFalls (s := s) (kept := kept) (lost := lost)).split with ⟨-, -, htxq⟩ | hfall
  · have hmarks : (requeuedMarks (s.lostEntries lost)).length ≤ (s.lostEntries lost).length := by
      rw [requeuedMarks_length]
      exact List.length_filter_le _ _
    rw [htxq]
    exact ⟨by rw [hcut]; omega, hapart⟩
  · obtain ⟨htxq, hmarks⟩ := State.lossTreated_fallen hpending hfall
    have hjoined := (s.lossCut kept lost).txq.join_length_le (.syncMark false)
    rw [hcut] at hjoined
    rw [htxq]
    exact ⟨by omega, TxQueue.join_numbered hapart _⟩

end

/-! ### The marks back in the queue (R123) -/

/-- The SYNC_MARK that is placed behind a plan sent again, if one is. -/
def State.syncPlaced (s : State) (removed : List TxEntry) : List TxEntry :=
  if s.syncDue removed && s.requeueRoom removed then [⟨s.txq.nextEntry, .syncMark true, 0⟩] else []

theorem State.requeuedTxq_perm (s : State) (removed : List TxEntry) :
    (s.requeuedTxq removed).queue.Perm ((s.txq.queue ++ requeuedMarks removed) ++ s.syncPlaced removed) := by
  have hparts := List.filter_append_perm TxEntry.allSent s.txq.queue
  have hqueue : (s.requeuedTxq removed).queue = s.txq.queue.filter TxEntry.allSent
      ++ ((requeuedMarks removed ++ s.syncPlaced removed) ++ s.txq.queue.filter fun e => !e.allSent) := by
    simp only [State.requeuedTxq, State.syncPlaced, List.append_assoc]
  rw [hqueue, List.append_assoc s.txq.queue]
  refine (List.perm_append_comm.append_left _).trans ?_
  rw [← List.append_assoc (s.txq.queue.filter TxEntry.allSent)]
  exact hparts.append_right _

/-- With the marks queued again the backlog joins, and the law holds. -/
theorem State.requeuedTxq_law {s : State} {removed : List TxEntry}
    (hsize : s.txq.queue.length + (requeuedMarks removed).length ≤ 256)
    (hnumbers : Numbered (s.txq.queue ++ requeuedMarks removed) s.txq.nextEntry) : (s.requeuedTxq removed).refill.Law := by
  have hperm := s.requeuedTxq_perm removed
  have hlength := hperm.length_eq
  rw [List.length_append, List.length_append] at hlength
  by_cases hplaced : (s.syncDue removed && s.requeueRoom removed) = true
  · have hsync : s.syncPlaced removed = [⟨s.txq.nextEntry, .syncMark true, 0⟩] := if_pos hplaced
    have hnext : (s.requeuedTxq removed).nextEntry = s.txq.nextEntry + 1 := if_pos hplaced
    have hroom : s.txq.queue.length + (requeuedMarks removed).length < 256 :=
      of_decide_eq_true (Bool.and_eq_true_iff.mp hplaced).2
    rw [hsync] at hperm hlength
    refine TxQueue.refill_law (by rw [hlength, List.length_singleton]; omega) ?_
    rw [hnext]
    exact (hnumbers.append _).perm hperm
  · have hsync : s.syncPlaced removed = [] := if_neg hplaced
    have hnext : (s.requeuedTxq removed).nextEntry = s.txq.nextEntry := if_neg hplaced
    rw [hsync, List.append_nil] at hperm
    refine TxQueue.refill_law (by rw [hperm.length_eq, List.length_append]; exact hsize) ?_
    rw [hnext]
    exact hnumbers.perm hperm

/-! ### Loss handling -/

theorem State.lossResumed_kept (s : State) (kept lost : List SentItem) (number : Seq) :
    s.QueueKept (s.lossResumed kept lost number) := fun hpending => by
  refine ⟨?_, fun hlaw => ?_⟩
  · rcases (State.lossTreated_staysOrFalls (s := s) (kept := kept) (lost := lost)).split with ⟨hcamp, htables, -⟩ | hfall
    · have hstate : (s.lossTreated kept lost).camp.state = s.camp.state := by rw [hcamp]; rfl
      exact hpending.of_same hstate htables
    · exact .of_none hfall.pending
  · obtain ⟨hsize, hnumbers⟩ := State.lossCounted_room (kept := kept) (lost := lost) hpending hlaw
    exact TxQueue.Law.of_same (State.requeuedTxq_law hsize hnumbers) rfl rfl rfl

theorem State.loseFrom_kept (s : State) (kept lost : List SentItem) (number : Seq) :
    s.QueueKept (s.loseFrom kept lost number) := by
  by_cases h : s.handoverLost lost = false ∨ s.camp.tries < 3
  · rw [State.loseFrom_resumes h]
    exact s.lossResumed_kept kept lost number
  · obtain ⟨hlost, htries⟩ := not_or.mp h
    rw [State.loseFrom_handedOver (Bool.not_eq_false _ ▸ hlost) (Nat.le_of_not_lt htries)]
    exact .of_emptied rfl rfl rfl

theorem State.loseOldest_kept (s : State) : s.QueueKept s.loseOldest := by
  unfold State.loseOldest
  split
  · exact .refl s
  · exact s.loseFrom_kept _ _ _

theorem State.loseAt_kept (s : State) (n number : Seq) : s.QueueKept (s.loseAt n number) := by
  unfold State.loseAt
  split
  · exact s.loseFrom_kept _ _ _
  · exact .refl s

theorem State.loseBad_kept (s : State) : s.QueueKept s.loseBad := by
  unfold State.loseBad
  split
  · exact s.loseOldest_kept
  · exact .refl s

end Sys2Proof.Machine
end

section
/-! SUPPORT. Every command keeps the pending bank in its states and the transmit queue to its law. -/

namespace Sys2Proof.Machine

/-- Where an outcome is a next state, the two laws are kept to it. -/
def State.NextKept (s : State) (o : Host.Outcome State Fault Refusal) : Prop := ∀ t, o = .next t → s.QueueKept t

theorem State.QueueKept.next {s t : State} (h : s.QueueKept t) : s.NextKept (.next t) := by
  rintro u ⟨⟩
  exact h

theorem State.QueueSame.next {s t : State} (h : s.QueueSame t) : s.NextKept (.next t) := h.kept.next

/-- An effect that may not come about. -/
theorem State.QueueKept.ite {s t : State} {c : Prop} [Decidable c] (h : c → s.QueueKept t) :
    s.QueueKept (if c then t else s) := by
  split
  next hc => exact h hc
  next => exact .refl s

theorem State.QueueSame.ite {s t : State} {c : Prop} [Decidable c] (h : s.QueueSame t) :
    s.QueueSame (if c then t else s) := by
  split
  · exact h
  · exact .refl s

theorem State.command_kept {s : State} {f : State → State} (h : s.QueueKept (f s)) : s.NextKept (s.command f) := by
  refine State.QueueKept.next ?_
  split
  · exact .refl s
  · exact h

theorem State.reply_queueSame (s : State) (status : Status) (data : List Byte) : s.QueueSame (s.reply status data) :=
  ⟨rfl, rfl, rfl, rfl, rfl⟩

theorem State.refuse_kept (s : State) (status : Status) : s.QueueKept (s.refuse status) := (s.reply_queueSame status []).kept

theorem State.campaignCommand_kept {s : State} {allowed : SenderState → Bool} {f : State → State}
    (h : allowed s.camp.state = true → s.QueueKept (f s)) : s.NextKept (s.campaignCommand allowed f) := by
  refine State.command_kept ?_
  split
  · exact s.refuse_kept _
  · split
    next hallowed => exact h hallowed
    next => exact s.refuse_kept _

theorem State.taken_kept {s t : State} (h : s.QueueKept t) : s.QueueKept t.taken := h.same (t.reply_queueSame _ _)

theorem mayPend_of_beq {st st' : SenderState} (h : (st == st') = true) (hnone : st'.mayPend = false) : st.mayPend = false := by
  rw [eq_of_beq h, hnone]

/-! ### The management line -/

section
variable (s : State)

theorem execSetRole_kept (role : Byte) : s.NextKept (execSetRole role s) := by
  refine State.command_kept ?_
  split
  · exact s.refuse_kept _
  · split
    · exact s.refuse_kept _
    · exact (s.takeRole_kept _).same (State.reply_queueSame _ _ _)

theorem execSetSize_kept (size : BitVec 32) : s.NextKept (execSetSize size s) := by
  refine State.command_kept ?_
  dsimp only
  split_ifs
  · exact s.refuse_kept _
  · exact (s.reply_queueSame _ _).kept
  · rw [State.helloOnChange_eq]
    exact State.QueueSame.kept ⟨rfl, rfl, rfl, rfl, rfl⟩

theorem execSetIdentity_kept (identity : BitVec 64) : s.NextKept (execSetIdentity identity s) := by
  refine State.command_kept ?_
  dsimp only
  split_ifs
  · exact s.refuse_kept _
  · exact (s.reply_queueSame _ _).kept
  · rw [State.helloOnChange_eq]
    exact State.QueueSame.kept ⟨rfl, rfl, rfl, rfl, rfl⟩

theorem execLoadRegion_kept (region : Byte) (base count : BitVec 32) (policy regionEnd : Byte) :
    s.NextKept (execLoadRegion region base count policy regionEnd s) := by
  refine State.command_kept ?_
  split
  · exact s.refuse_kept _
  · split
    · exact s.refuse_kept _
    · split
      · exact State.QueueSame.kept ⟨rfl, rfl, rfl, rfl, rfl⟩
      · exact s.refuse_kept _

theorem execClearRegion_kept (region : Byte) : s.NextKept (execClearRegion region s) := by
  refine State.command_kept ?_
  split_ifs <;> exact State.QueueSame.kept ⟨rfl, rfl, rfl, rfl, rfl⟩

theorem Tables.setBank_pending (tb : Tables) (b : Bank) (entries : List Nat) : (tb.setBank b entries).pending = tb.pending := by
  cases b <;> rfl

theorem execLoadBank_kept (bank : Byte) (entries : List Byte) : s.NextKept (execLoadBank bank entries s) := by
  refine State.command_kept ?_
  cases bankOf bank with
  | none =>
    dsimp only
    split_ifs <;> exact s.refuse_kept _
  | some b =>
    dsimp only
    split_ifs
    · exact s.refuse_kept _
    · exact s.refuse_kept _
    · exact s.refuse_kept _
    · exact State.QueueSame.kept ⟨rfl, Tables.setBank_pending _ _ _, rfl, rfl, rfl⟩

theorem execSelectBank_kept (bank : Byte) : s.NextKept (execSelectBank bank s) := by
  refine State.command_kept ?_
  cases bankOf bank with
  | none => exact s.refuse_kept _
  | some b =>
    cases s.mgmt.role with
    | sender => exact s.selectOnSender_kept b
    | receiver =>
      dsimp only
      split
      · exact s.refuse_kept _
      · exact State.QueueSame.kept ⟨rfl, rfl, rfl, rfl, rfl⟩

theorem execSetTuning_kept (args : TuningArgs) : s.NextKept (execSetTuning args s) := by
  refine State.command_kept ?_
  split
  · exact s.refuse_kept _
  · split <;> exact State.QueueSame.kept ⟨rfl, rfl, rfl, rfl, rfl⟩

theorem execSetShare_kept (share : Byte) : s.NextKept (execSetShare share s) := by
  refine State.command_kept ?_
  exact State.QueueSame.kept ⟨rfl, rfl, rfl, rfl, rfl⟩

theorem execSetLines_kept (cueMode paceEnable eventMask : Byte) (alertMask : BitVec 16) :
    s.NextKept (execSetLines cueMode paceEnable eventMask alertMask s) := by
  refine State.command_kept ?_
  split
  · split <;> exact State.QueueSame.kept ⟨rfl, rfl, rfl, rfl, rfl⟩
  · exact s.refuse_kept _

theorem execSetLink_kept (enable blanking offTime relink : Byte) (peerWait : BitVec 16) :
    s.NextKept (execSetLink enable blanking offTime relink peerWait s) := by
  refine State.command_kept ?_
  split
  · exact s.refuse_kept _
  · split
    · refine .same ?_ (State.reply_queueSame _ _ _)
      exact State.QueueKept.after (State.followEnable_kept _) ⟨rfl, rfl, rfl, rfl, rfl⟩
    · exact s.refuse_kept _

theorem execClearLatches_kept (conditions : BitVec 16) : s.NextKept (execClearLatches conditions s) := by
  refine State.command_kept ?_
  split <;> exact State.QueueSame.kept ⟨rfl, rfl, rfl, rfl, rfl⟩

theorem execReadRegion_kept (region : Byte) : s.NextKept (execReadRegion region s) := by
  refine State.command_kept ?_
  split <;> exact (s.reply_queueSame _ _).kept

theorem execReadBank_kept (bank : Byte) : s.NextKept (execReadBank bank s) := by
  refine State.command_kept ?_
  cases bankOf bank with
  | none => exact s.refuse_kept _
  | some b => exact (s.reply_queueSame _ _).kept

theorem execReadStatus_kept : s.NextKept (execReadStatus s) := by
  refine State.command_kept ?_
  exact State.QueueSame.kept ⟨rfl, rfl, rfl, rfl, rfl⟩

theorem execReadCounters_kept : s.NextKept (execReadCounters s) :=
  State.command_kept (s.reply_queueSame _ _).kept

theorem execReadFaults_kept : s.NextKept (execReadFaults s) :=
  State.command_kept (s.reply_queueSame _ _).kept

theorem execReadExit_kept : s.NextKept (execReadExit s) :=
  State.command_kept (s.reply_queueSame _ _).kept

theorem execUnknownCommand_kept (code : Byte) (args : List Byte) : s.NextKept (execUnknownCommand code args s) :=
  State.command_kept (s.refuse_kept _)

theorem execSoftReset_kept : s.NextKept (execSoftReset s) :=
  State.command_kept (.after (State.soft_kept _) (s.reply_queueSame .ok []))

/-! ### The campaign's commands and inputs -/

theorem execArm_kept : s.NextKept (execArm s) :=
  State.campaignCommand_kept fun h => State.taken_kept (s.enter_kept (.inr (mayPend_of_beq h rfl)))

theorem execDisarm_kept : s.NextKept (execDisarm s) :=
  State.campaignCommand_kept fun h => State.taken_kept (State.enterIdle_kept (by
    rcases Bool.or_eq_true_iff.mp h with h | h <;> exact mayPend_of_beq h rfl))

theorem execStart_kept : s.NextKept (execStart s) :=
  State.campaignCommand_kept fun h => by
    cases s.startCheck with
    | error status => exact s.refuse_kept status
    | ok peer => exact State.taken_kept (State.startCampaign_kept (mayPend_of_beq h rfl) peer)

theorem execBreakCmd_kept : s.NextKept (execBreakCmd s) := by
  refine State.campaignCommand_kept fun _ => ?_
  exact State.QueueSame.kept ⟨rfl, rfl, rfl, rfl, rfl⟩

theorem execResumeCmd_kept : s.NextKept (execResumeCmd s) := by
  refine State.campaignCommand_kept fun _ => ?_
  exact State.QueueSame.kept ⟨rfl, rfl, rfl, rfl, rfl⟩

theorem execHandover_kept : s.NextKept (execHandover s) :=
  State.campaignCommand_kept fun h => State.taken_kept (State.takeHandover_kept (mayPend_of_beq h rfl))

theorem execAbort_kept (kind : Byte) : s.NextKept (execAbort kind s) :=
  State.campaignCommand_kept fun _ => by
    split
    · exact s.refuse_kept _
    · exact State.taken_kept (s.abortWith_kept _ _)

theorem execCueEdge_kept (rising : Bool) : s.NextKept (execCueEdge rising s) := by
  have hseen : s.QueueSame { s with mgmt.cue := rising } := ⟨rfl, rfl, rfl, rfl, rfl⟩
  refine State.QueueKept.next ?_
  split
  · exact .after (State.cueRise_kept _) hseen
  · exact hseen.kept

/-! ### Timers and block events of the campaign -/

theorem execStartDelayExpiry_kept : s.NextKept (execStartDelayExpiry s) :=
  (State.QueueKept.ite fun h => by
    have hstate : s.camp.state = .delay := of_decide_eq_true (Bool.and_eq_true_iff.mp h).1
    exact .after (State.enterPlan_kept (s := { s with camp.startDelay := none }) (by rw [hstate]; rfl))
      ⟨rfl, rfl, rfl, rfl, rfl⟩).next

theorem execSettleExpiry_kept : s.NextKept (execSettleExpiry s) := by
  refine State.QueueKept.next (.ite fun _ => ?_)
  exact .after (State.beginPass_kept _ _) ⟨rfl, rfl, rfl, rfl, rfl⟩

theorem execPassEnd_kept : s.NextKept (execPassEnd s) := by
  have hmoved := s.moveWalks_queueSame
  refine State.QueueKept.next (State.QueueKept.ite fun _ => ?_)
  split
  next => exact .after (State.endSweep_kept _) hmoved
  next hstate =>
    split
    · exact .after (State.closePass_kept (by rw [hmoved.state, hstate]; rfl)) hmoved
    · exact .after (State.endMirror_kept _) hmoved
  next => exact .refl s

theorem execPassClose_kept : s.NextKept (execPassClose s) :=
  (State.QueueKept.ite fun h => State.closePass_kept (by
    obtain ⟨-, hstate, -⟩ := s.mayClose_iff.mp h
    rw [hstate]
    rfl)).next

theorem execAuditPassEnd_kept : s.NextKept (execAuditPassEnd s) := by
  have hmoved := s.moveWalks_queueSame
  refine State.QueueKept.next (State.QueueKept.ite fun h => ?_)
  simp only [Bool.and_eq_true, beq_iff_eq] at h
  obtain ⟨⟨⟨⟨-, hstate⟩, -⟩, -⟩, -⟩ := h
  exact .after (State.endAudit_kept (by rw [hmoved.state, hstate]; rfl)) hmoved

theorem execFreezeRegionComplete_kept : s.NextKept (execFreezeRegionComplete s) := by
  refine State.QueueKept.next (State.QueueKept.ite fun h => ?_)
  simp only [Bool.and_eq_true, beq_iff_eq] at h
  obtain ⟨⟨⟨-, hstate⟩, -⟩, -⟩ := h
  have hreleased : s.QueueSame { s.release with camp.holdBudget := none } :=
    s.release_queueSame.trans ⟨rfl, rfl, rfl, rfl, rfl⟩
  exact .after (State.freezeNext_kept (by rw [hreleased.state, hstate]; rfl)) hreleased

theorem execHandoverQueued_kept : s.NextKept (execHandoverQueued s) := by
  refine State.QueueKept.next (.ite fun _ => ?_)
  exact .after (State.queueMark_kept _ _) ⟨rfl, rfl, rfl, rfl, rfl⟩

/-! ### The memory path -/

theorem execArbiterGrant_kept : s.NextKept (execArbiterGrant s) := by
  have htested : s.QueueSame s.testHead := by
    unfold State.testHead
    split <;> exact ⟨rfl, rfl, rfl, rfl, rfl⟩
  exact (State.QueueKept.after (State.arbitrate_kept _) (htested.trans (State.moveWalks_queueSame _))).next

theorem execFarTermination_kept (id : Nat) (term : Term) : s.NextKept (execFarTermination id term s) := by
  refine State.QueueKept.next ?_
  split
  · exact .refl s
  · exact State.QueueKept.after (State.routeTermination_kept _ _ _) ⟨rfl, rfl, rfl, rfl, rfl⟩

theorem execPairHoldExpiry_kept (tag : Fin 16) : s.NextKept (execPairHoldExpiry tag s) := by
  refine State.QueueSame.next (.ite ?_)
  exact ⟨rfl, rfl, rfl, rfl, rfl⟩

/-! ### Frames -/

theorem execHello_kept (body : HelloBody) : s.NextKept (execHello body s) := by
  refine State.QueueKept.next ?_
  cases s.link.state with
  | down | training => exact .refl s
  | blanking | up | cooldown => exact State.QueueKept.after (State.takeHello_kept _ body) ⟨rfl, rfl, rfl, rfl, rfl⟩

theorem execKeepalive_kept (total : Seq) : s.NextKept (execKeepalive total s) := by
  have hgood : s.QueueSame s.goodFrame := ⟨rfl, rfl, rfl, rfl, rfl⟩
  refine State.QueueKept.next ?_
  cases s.link.state with
  | down | training => exact .refl s
  | blanking | up | cooldown =>
    cases s.mgmt.role with
    | sender => exact (hgood.trans (State.recoverCredit_queueSame _ total)).kept
    | receiver => exact hgood.kept

theorem execUndefinedFrame_kept (kind : Byte) (content : List Byte) : s.NextKept (execUndefinedFrame kind content s) := by
  refine State.QueueKept.next ?_
  cases s.link.state with
  | down | training => exact .refl s
  | blanking | up | cooldown => exact State.QueueSame.kept ⟨rfl, rfl, rfl, rfl, rfl⟩

theorem execDigestResult_kept (seq : Seq) (tile : BitVec 32) (result : Byte) : s.NextKept (execDigestResult seq tile result s) :=
  (s.onFrame_kept .sender fun u => by
    split
    · exact .ite fun _ => u.takeResult_kept _ _ _
    · exact .refl u).next

theorem execResync_kept (number sentTotal : Seq) : s.NextKept (execResync number sentTotal s) :=
  (s.onFrame_kept .receiver fun u => ((u.creditLost_queueSame sentTotal).trans (State.renumber_queueSame _ number)).kept).next

theorem execBeginFrame_kept (number : Seq) (identity : BitVec 64) (first : Seq) :
    s.NextKept (execBeginFrame number identity first s) :=
  (s.onFrame_kept .receiver fun u => by
    split
    · exact .refl u
    · exact (u.takeBegin_queueSame number first).kept).next

theorem execApplierTake_kept : s.NextKept (execApplierTake s) := by
  refine State.QueueSame.next (.ite ?_)
  exact s.dropMarkers_queueSame.trans (State.takeFrame_queueSame _)

/-! ### The link -/

theorem execLossOfSignal_kept (lane : Fin 2) : s.NextKept (execLossOfSignal lane s) := by
  have hlost : s.QueueSame (s.loseLane lane) := by
    rw [State.loseLane_eq]
    exact ⟨rfl, rfl, rfl, rfl, rfl⟩
  refine State.QueueKept.next ?_
  split
  · exact hlost.kept
  · exact .after (State.linkDown_kept _) hlost

theorem execEvtPulseEnd_kept : s.NextKept (execEvtPulseEnd s) := by
  refine State.QueueSame.next ?_
  split <;> exact ⟨rfl, rfl, rfl, rfl, rfl⟩

theorem execEvtGuardEnd_kept : s.NextKept (execEvtGuardEnd s) := by
  refine State.QueueSame.next ?_
  split <;> exact ⟨rfl, rfl, rfl, rfl, rfl⟩

/-! ### Every command -/

theorem exec_kept (c : Instr) : s.NextKept (exec c s) := by
  cases c with
  | nearTransfer tag kind addr mask data =>
    refine State.QueueSame.next ?_
    split
    · exact .refl s
    · exact s.arrive_queueSame _
  | arbiterGrant => exact execArbiterGrant_kept s
  | farTermination id term => exact execFarTermination_kept s id term
  | pairHoldExpiry tag => exact execPairHoldExpiry_kept s tag
  | stallLimitExpiry =>
    refine State.QueueSame.next (.ite ?_)
    exact ⟨rfl, rfl, rfl, rfl, rfl⟩
  | setRole role => exact execSetRole_kept s role
  | setSize size => exact execSetSize_kept s size
  | setIdentity identity => exact execSetIdentity_kept s identity
  | loadRegion region base count policy regionEnd => exact execLoadRegion_kept s region base count policy regionEnd
  | clearRegion region => exact execClearRegion_kept s region
  | loadBank bank entries => exact execLoadBank_kept s bank entries
  | selectBank bank => exact execSelectBank_kept s bank
  | setTuning args => exact execSetTuning_kept s args
  | setShare share => exact execSetShare_kept s share
  | setLines cueMode paceEnable eventMask alertMask => exact execSetLines_kept s cueMode paceEnable eventMask alertMask
  | setLink enable blanking offTime relink peerWait => exact execSetLink_kept s enable blanking offTime relink peerWait
  | arm => exact execArm_kept s
  | disarm => exact execDisarm_kept s
  | start => exact execStart_kept s
  | breakCmd => exact execBreakCmd_kept s
  | resumeCmd => exact execResumeCmd_kept s
  | abort kind => exact execAbort_kept s kind
  | handover => exact execHandover_kept s
  | clearLatches conditions => exact execClearLatches_kept s conditions
  | readStatus => exact execReadStatus_kept s
  | readCounters => exact execReadCounters_kept s
  | readRegion region => exact execReadRegion_kept s region
  | readBank bank => exact execReadBank_kept s bank
  | readFaults => exact execReadFaults_kept s
  | readExit => exact execReadExit_kept s
  | softReset => exact execSoftReset_kept s
  | unknownCommand code args => exact execUnknownCommand_kept s code args
  | powerOn straps => exact (State.QueueKept.of_emptied rfl rfl rfl).next
  | warmReset => exact (State.QueueKept.of_emptied rfl rfl rfl).next
  | cueEdge rising => exact execCueEdge_kept s rising
  | paceChange high => exact State.QueueSame.next ⟨rfl, rfl, rfl, rfl, rfl⟩
  | startDelayExpiry => exact execStartDelayExpiry_kept s
  | planWaitExpiry =>
    refine State.QueueKept.next (.ite fun _ => ?_)
    exact s.close_kept _
  | settleExpiry => exact execSettleExpiry_kept s
  | passEnd => exact execPassEnd_kept s
  | passClose => exact execPassClose_kept s
  | auditPassEnd => exact execAuditPassEnd_kept s
  | heldRegionQuiet =>
    refine State.QueueSame.next (.ite ?_)
    exact ⟨rfl, rfl, rfl, rfl, rfl⟩
  | freezeRegionComplete => exact execFreezeRegionComplete_kept s
  | handoverQueued => exact execHandoverQueued_kept s
  | holdBudgetExpiry =>
    refine State.QueueKept.next (.ite fun _ => ?_)
    exact s.budgetExpires_kept
  | endingClose =>
    refine State.QueueKept.next (.ite fun _ => ?_)
    exact s.close_kept _
  | peerWaitExpiry =>
    refine State.QueueKept.next (.ite fun _ => ?_)
    exact s.close_kept _
  | resumeRepeat =>
    refine State.QueueSame.next (.ite ?_)
    exact ⟨rfl, rfl, rfl, rfl, rfl⟩
  | resumeWaitExpiry =>
    refine State.QueueKept.next (.ite fun _ => ?_)
    exact s.close_kept _
  | hello body => exact execHello_kept s body
  | keepalive total => exact execKeepalive_kept s total
  | planAck number =>
    refine State.QueueKept.next (s.onFrame_kept .sender fun u => ?_)
    exact u.takePlanAck_kept number
  | planRefuse reason =>
    refine State.QueueKept.next (s.onFrame_kept .sender fun u => .ite fun _ => ?_)
    exact u.close_kept _
  | resumeAck number =>
    refine State.QueueKept.next (s.onFrame_kept .sender fun u => .ite fun _ => ?_)
    exact u.resume_kept
  | resumeRefuse number => exact (s.onFrame_kept .sender State.refuseResume_kept).next
  | applied seq =>
    refine State.QueueKept.next (s.onFrame_kept .sender fun u => ?_)
    exact u.takeApplied_kept seq
  | gap seq =>
    refine State.QueueKept.next (s.onFrame_kept .sender fun u => ?_)
    exact u.loseAt_kept seq seq
  | applyTimeout =>
    refine State.QueueKept.next (.ite fun _ => ?_)
    exact s.loseOldest_kept
  | faulted seq tile =>
    refine State.QueueKept.next (s.onFrame_kept .sender fun u => .ite fun _ => ?_)
    exact u.takeFaulted_kept _
  | digestResult seq tile result => exact execDigestResult_kept s seq tile result
  | demand tile =>
    refine State.QueueKept.next (s.onFrame_kept .sender fun u => .ite fun _ => ?_)
    exact (u.takeDemandFrame_queueSame _).kept
  | credit count =>
    refine State.QueueKept.next (s.onFrame_kept .sender fun u => .ite fun _ => ?_)
    exact (u.takeCredit_queueSame _).kept
  | badFrame => exact (State.QueueKept.after (State.loseBad_kept _) s.countBad_queueSame).next
  | undefinedFrame kind content => exact execUndefinedFrame_kept s kind content
  | beginFrame number identity first => exact execBeginFrame_kept s number identity first
  | resumeFrame number next =>
    refine State.QueueKept.next (s.onFrame_kept .receiver fun u => ?_)
    exact (u.takeResume_queueSame number next).kept
  | abandon reason =>
    refine State.QueueKept.next (s.onFrame_kept .receiver fun u => .ite fun _ => ?_)
    exact u.takeAbandon_queueSame.kept
  | resync number sentTotal => exact execResync_kept s number sentTotal
  | orderedFrameArrival seq body =>
    refine State.QueueKept.next (s.onFrame_kept .receiver fun u => ?_)
    exact (u.arriveOrdered_queueSame seq body).kept
  | applierTake => exact execApplierTake_kept s
  | demandWaitExpiry tile =>
    refine State.QueueSame.next (.ite ?_)
    exact ⟨rfl, rfl, rfl, rfl, rfl⟩
  | transmit => exact s.transmitNext_kept.next
  | keepaliveDue =>
    refine State.QueueSame.next (.ite ?_)
    exact ⟨rfl, rfl, rfl, rfl, rfl⟩
  | helloTimerExpiry =>
    refine State.QueueSame.next (.ite ?_)
    exact ⟨rfl, rfl, rfl, rfl, rfl⟩
  | blankingHelloTimer =>
    refine State.QueueSame.next (.ite ?_)
    exact ⟨rfl, rfl, rfl, rfl, rfl⟩
  | lossOfSignal lane => exact execLossOfSignal_kept s lane
  | silenceExpiry =>
    refine State.QueueKept.next (.ite fun _ => ?_)
    exact s.linkDown_kept
  | quietTimeExpiry =>
    refine State.QueueKept.next (.ite fun _ => ?_)
    exact .after (State.tryTrain_queueSame _).kept ⟨rfl, rfl, rfl, rfl, rfl⟩
  | laneSignal =>
    refine State.QueueKept.next ?_
    exact .after (State.tryTrain_queueSame _).kept ⟨rfl, rfl, rfl, rfl, rfl⟩
  | trained =>
    refine State.QueueKept.next (.ite fun _ => ?_)
    exact s.enterBlanking_kept
  | blankingEnd =>
    refine State.QueueKept.next (.ite fun _ => ?_)
    exact s.enterUp_kept
  | offTimeEnd =>
    refine State.QueueKept.next (.ite fun _ => ?_)
    exact s.returnUp_kept
  | evtPulseEnd => exact execEvtPulseEnd_kept s
  | evtGuardEnd => exact execEvtGuardEnd_kept s
  | resetNHigh =>
    refine State.QueueKept.next (.ite fun _ => ?_)
    exact .after (State.tryTrain_queueSame _).kept ⟨rfl, rfl, rfl, rfl, rfl⟩

theorem step_kept : s.NextKept (step s) := by
  cases hpending : s.pending with
  | nil =>
    rw [step, hpending]
    exact (State.QueueKept.refl s).next
  | cons c rest =>
    rw [step, hpending]
    exact fun t ht => .after (exec_kept { s with pending := rest } c t ht) ⟨rfl, rfl, rfl, rfl, rfl⟩

end

end Sys2Proof.Machine

/-! PROOFS. The pending bank and the transmit queue (R27, R28, R113, R114): O13. -/

namespace Sys2Proof.Proofs
open Sys2Proof.Machine

/-- Settles O13: no command breaks the law of the pending bank, nor, where that law holds, the law of the queue; a mark joins by the
cases of the join, and an entry that leaves is followed by the refill. -/
theorem stepKeepsQueueLaw : Obligations.StepKeepsQueueLaw := by
  refine ⟨fun s t hpending hstep => step_kept s t hstep hpending, fun q b => ⟨TxQueue.join_room b, fun hwaits => ⟨?_, ?_⟩⟩, ?_⟩
  · intro htail
    rw [TxQueue.join_waits b hwaits, backlogAdd_tail htail]
  · rintro before x after y rfl hbacklog hothers
    rw [TxQueue.join_waits _ hwaits, hbacklog, backlogAdd_replaces hothers]
  · intro q before e after hqueue hothers
    rw [TxQueue.remove_eq hqueue hothers]
    exact TxQueue.refill_eq _

end Sys2Proof.Proofs
end

section
/-! SUPPORT. Rules of the receive applier (R37, R138, R148, R151, R152, R157, R158, R162): what it takes and when, how a frame
with no transfer is applied at once, and what the install of a plan leaves. -/

namespace Sys2Proof

/-- PLAN and PLAN_END. -/
def OrderedBody.ofPlan : OrderedBody → Bool
  | .plan _ _ _ _ _ | .planEnd => true
  | .tileChunk _ _ _ | .mirror _ _ _ _ | .digest _ _ => false
  | .syncMark | .unsyncMark | .quarantine _ | .abandonTile _ | .handover => false

theorem OrderedBody.ofPlan_eq_false_iff (body : OrderedBody) :
    body.ofPlan = false ↔ body ≠ .planEnd ∧ ∀ r b c p e, body ≠ .plan r b c p e := by
  cases body <;> simp [OrderedBody.ofPlan]

end Sys2Proof

namespace Sys2Proof.Machine

/-! ### The receiver's state (R140, R148) -/

/-- The management unit after the receiver has gone to a state: an event for a move of the SYNC line (R148). -/
def State.syncMoved (s : State) (st : ReceiverState) : Management :=
  if s.rx.state.synced = st.synced then s.mgmt
  else s.mgmt.raise s.cfg.eventMask (if st.synced then .insyncEnter else .insyncLeave)

theorem State.syncMoved_rise {s : State} {st : ReceiverState} (h : s.rx.state.synced = false) (hst : st.synced = true) :
    s.syncMoved st = s.mgmt.raise s.cfg.eventMask .insyncEnter := by
  simp [State.syncMoved, h, hst]

theorem State.syncMoved_fall {s : State} {st : ReceiverState} (h : s.rx.state.synced = true) (hst : st.synced = false) :
    s.syncMoved st = s.mgmt.raise s.cfg.eventMask .insyncLeave := by
  simp [State.syncMoved, h, hst]

theorem State.syncMoved_level {s : State} {st : ReceiverState} (h : s.rx.state.synced = st.synced) :
    s.syncMoved st = s.mgmt := if_pos h

theorem State.syncEvent_eq (s : State) (before after : ReceiverState) :
    s.syncEvent before after = { s with
      mgmt := if before.synced = after.synced then s.mgmt
        else s.mgmt.raise s.cfg.eventMask (if after.synced then .insyncEnter else .insyncLeave) } := by
  unfold State.syncEvent
  cases before.synced <;> cases after.synced <;> rfl

theorem State.enterReceiver_open {s : State} (hopen : s.link.state.isOpen = true) (st : ReceiverState) :
    s.enterReceiver st = { s with
      rx.state := st
      link.control := if s.rx.state = st then s.link.control else controlAdd .hello s.link.control
      mgmt := s.syncMoved st } := by
  unfold State.enterReceiver
  split_ifs with hstate
  · simp [State.syncMoved, ← hstate]
  · rw [State.helloOnChange_eq, State.syncEvent_eq, if_pos (by exact hopen)]
    rfl

/-! ### The frame taken (R138, R158) -/

/-- The frame at the head of the buffer has left it with its credit. -/
def State.popped (s : State) (rest : List RxItem) : State := { s with rx.buffer := rest, link := s.link.returned 1 }

theorem Link.returned_state (l : Link) (n : Nat) : (l.returned n).state = l.state := by
  unfold Link.returned
  split_ifs <;> rfl

theorem Link.returned_control (l : Link) (n : Nat) : (l.returned n).control = l.control := by
  unfold Link.returned
  split_ifs <;> rfl

/-- Credits take at most one place of the report list. -/
theorem Link.returned_length_le (l : Link) (n : Nat) : (l.returned n).reports.length ≤ l.reports.length + 1 := by
  unfold Link.returned
  split_ifs <;> simp

theorem mayHand_pos (body : OrderedBody) : 1 ≤ mayHand body := by cases body <;> simp [mayHand]

theorem mayHand_le (body : OrderedBody) : mayHand body ≤ 2 := by cases body <;> simp [mayHand]

theorem exec_applierTake_idle {s : State} (hrole : s.mgmt.role = .receiver) (hnone : s.rx.applying = none) :
    exec .applierTake s = .next s.dropMarkers.takeFrame := by
  simp [exec, execApplierTake, hrole, hnone]

/-- The applier starts the frame at the head of the buffer where the report list has room for what it may hand. -/
theorem exec_applierTake_frame {s : State} {seq : Seq} {body : OrderedBody} {rest : List RxItem}
    (hrole : s.mgmt.role = .receiver) (hopen : s.link.state.isOpen = true) (hnone : s.rx.applying = none)
    (hbuffer : s.rx.buffer = .frame seq body :: rest) {u : State} {a : Applying}
    (hstart : (s.popped rest).startFrame (Applying.start seq body) = (u, a)) :
    exec .applierTake s =
      .next (if s.link.reports.length + mayHand body ≤ 64 then State.tryFinish { u with rx.applying := some a } else s) := by
  have hhead : s.dropMarkers = s := by simp only [State.dropMarkers, hbuffer]
  have hpopped : State.giveCredit { s with rx.buffer := rest } 1 = s.popped rest := by
    rw [State.giveCredit, Link.giveCredit_open _ _ (by exact hopen)]
    rfl
  have hroom : s.link.hasRoom (mayHand body) = decide (s.link.reports.length + mayHand body ≤ 64) := rfl
  rw [exec_applierTake_idle hrole hnone, hhead]
  simp only [State.takeFrame, hbuffer, hopen, Bool.not_true, Bool.false_or, hroom, decide_eq_true_eq, hpopped, hstart]

/-- A frame waits where the report list has no room for what it may hand (R138). -/
theorem exec_applierTake_full {s : State} {seq : Seq} {body : OrderedBody} {rest : List RxItem}
    (hrole : s.mgmt.role = .receiver) (hopen : s.link.state.isOpen = true) (hbuffer : s.rx.buffer = .frame seq body :: rest)
    (hfull : 64 < s.link.reports.length + mayHand body) : exec .applierTake s = .next s := by
  cases happlying : s.rx.applying with
  | none => rw [exec_applierTake_frame hrole hopen happlying hbuffer rfl, if_neg (Nat.not_le_of_lt hfull)]
  | some a => simp [exec, execApplierTake, happlying]

/-- Markers with no frame behind them are dropped, and the assembly with them (R157). -/
theorem exec_applierTake_markers {s : State} (hrole : s.mgmt.role = .receiver) (hnone : s.rx.applying = none)
    (hbuffer : s.rx.buffer ≠ []) (hmarkers : ∀ x ∈ s.rx.buffer, x.isFrame = false) :
    exec .applierTake s = .next { s with rx.assembly := none, rx.buffer := [] } := by
  have hall : s.rx.buffer.dropWhile (fun i => !i.isFrame) = [] := by
    simpa [List.dropWhile_eq_nil_iff] using hmarkers
  have hdrop : s.dropMarkers = { s with rx.assembly := none, rx.buffer := [] } := by
    cases hitems : s.rx.buffer with
    | nil => exact absurd hitems hbuffer
    | cons x rest =>
      cases x with
      | frame seq body => exact absurd (hmarkers _ (hitems ▸ List.mem_cons_self)) (by simp [RxItem.isFrame])
      | marker n =>
        rw [hitems] at hall
        simp only [State.dropMarkers, hitems, hall]
  rw [exec_applierTake_idle hrole hnone, hdrop]
  rfl

/-! ### A frame with no transfer left (R158, R162, R163) -/

theorem State.applyHandover_other {s : State} {a : Applying} (h : a.body ≠ .handover ∨ s.rx.state.active = false) :
    s.applyHandover a = s := by
  unfold State.applyHandover
  rw [if_neg]
  rcases h with h | h <;> simp [h]

/-- HANDOVER takes an active receiver to LIVE (R162). -/
theorem State.applyHandover_active {s : State} {a : Applying} (hopen : s.link.state.isOpen = true) (hbody : a.body = .handover)
    (hactive : s.rx.state.active = true) :
    s.applyHandover a = { s with
      rx.state := .live
      rx.demands := []
      rx.expired := []
      link.control := controlAdd .hello s.link.control
      mgmt := s.syncMoved .live } := by
  have hlive : s.rx.state ≠ .live := by
    intro h
    rw [h] at hactive
    exact Bool.false_ne_true hactive
  rw [State.applyHandover, if_pos (by simp [hbody, hactive]), State.enterReceiver_open (by exact hopen)]
  simp only [if_neg hlive]
  rfl

/-- A frame with no transfer left is applied, with its report, where the report list has room for that and an APPLIED. -/
theorem State.tryFinish_applied {s : State} {a : Applying} (happlying : s.rx.applying = some a) (hended : a.ended = true)
    (hsilent : a.silent = false) (hopen : s.link.state.isOpen = true) (hroom : s.link.reports.length + 2 ≤ 64)
    (hready : a.body = .handover → s.rx.state.active = true → s.rx.fill = .complete)
    (hreport : ∀ r, a.report = some r → r.isApplied = false) :
    s.tryFinish = (s.applyHandover a).appliedNow a.seq a.report := by
  have hready' : s.handoverReady a = true := by
    by_cases hbody : a.body = .handover
    · cases hactive : s.rx.state.active
      · simp [State.handoverReady, hactive]
      · simp [State.handoverReady, hready hbody hactive]
    · simp [State.handoverReady, hbody]
  have hroom' : s.finishRoom a = true := by
    have hone : a.report.toList.length ≤ 1 := by cases a.report <;> simp
    have hfits : s.link.reports.length + (a.report.toList.length + if s.appliedDue then 1 else 0) ≤ 64 := by
      split_ifs <;> omega
    simp [State.finishRoom, Link.hasRoom, Config.reportLimit, hfits]
  simp only [State.tryFinish, happlying, hended, hready', hroom', Bool.and_self, if_true]
  by_cases h : a.body ≠ .handover ∨ s.rx.state.active = false
  · rw [State.applyHandover_other h]
    exact s.finishFrame_eq a hsilent hopen hroom hreport
  · obtain ⟨hbody, hactive⟩ := not_or.mp h
    rw [State.applyHandover_active hopen (not_ne_iff.mp hbody) (Bool.eq_true_of_not_eq_false hactive)]
    exact State.finishFrame_eq _ a hsilent (by exact hopen) (by exact hroom) hreport

/-- The applier of a receiver with its link open takes the frame at the head of the buffer: none is in application, and the
report list has room for a credit, a report and an APPLIED (R138, R158). -/
structure State.MayTake (s : State) (seq : Seq) (body : OrderedBody) (rest : List RxItem) : Prop where
  role : s.mgmt.role = .receiver
  isOpen : s.link.state.isOpen = true
  idle : s.rx.applying = none
  buffer : s.rx.buffer = .frame seq body :: rest
  room : s.link.reports.length + 3 ≤ 64

namespace State.MayTake

variable {s : State} {seq : Seq} {body : OrderedBody} {rest : List RxItem} (h : s.MayTake seq body rest)
include h

theorem popped_isOpen : (s.popped rest).link.state.isOpen = true :=
  (congrArg LinkState.isOpen (s.link.returned_state 1)).trans h.isOpen

theorem popped_room : (s.popped rest).link.reports.length + 2 ≤ 64 :=
  (Nat.add_le_add_right (s.link.returned_length_le 1) 2).trans h.room

theorem exec_started {u : State} {a : Applying} (hstart : (s.popped rest).startFrame (Applying.start seq body) = (u, a)) :
    exec .applierTake s = .next (State.tryFinish { u with rx.applying := some a }) := by
  rw [exec_applierTake_frame h.role h.isOpen h.idle h.buffer hstart, if_pos]
  have := mayHand_le body
  have := h.room
  omega

/-- A frame that calls for no transfer, a HANDOVER of an active receiver aside, is applied as it is taken. -/
theorem exec_applied {u : State} {report : Option Report}
    (hstart : (s.popped rest).startFrame (Applying.start seq body) = (u, { Applying.start seq body with report := report }))
    (hlink : ∃ control, u.link = { (s.popped rest).link with control := control })
    (hbody : body ≠ .handover ∨ u.rx.state.active = false) (hreport : ∀ r, report = some r → r.isApplied = false) :
    exec .applierTake s = .next (u.appliedNow seq report) := by
  obtain ⟨control, hlink⟩ := hlink
  have hopen : u.link.state.isOpen = true := hlink ▸ h.popped_isOpen
  have hroom : u.link.reports.length + 2 ≤ 64 := hlink ▸ h.popped_room
  have hready : body = .handover → u.rx.state.active = true → u.rx.fill = .complete := fun hhandover hactive =>
    hbody.elim (absurd hhandover) fun hinactive => absurd (hinactive.symm.trans hactive) Bool.false_ne_true
  have hfinish := State.tryFinish_applied (s := { u with rx.applying := some { Applying.start seq body with report := report } })
    rfl rfl rfl hopen hroom hready hreport
  rw [h.exec_started hstart, hfinish, State.applyHandover_other hbody]
  rfl

/-- A frame with nothing to do is applied as it is taken. -/
theorem exec_plain (hstart : (s.popped rest).startFrame (Applying.start seq body) = (s.popped rest, Applying.start seq body))
    (hbody : body ≠ .handover ∨ s.rx.state.active = false) :
    exec .applierTake s = .next ((s.popped rest).appliedNow seq none) :=
  h.exec_applied hstart ⟨_, rfl⟩ hbody (by simp)

end State.MayTake

/-! ### What a frame does as it is taken (R151, R158) -/

theorem State.startFrame_live {s : State} (h : s.rx.state = .live) (a : Applying) : s.startFrame a = (s, a) := by
  simp [State.startFrame, h]

theorem State.startFrame_idle {s : State} {a : Applying} (h : s.rx.state = .idle) (hbody : a.body.ofPlan = false) :
    s.startFrame a = (s, a) := by
  cases hb : a.body with
  | plan | planEnd => simp [hb, OrderedBody.ofPlan] at hbody
  | _ => simp only [State.startFrame, h, hb]

theorem State.startFrame_active {s : State} {a : Applying} (h : s.rx.state = .receiving ∨ s.rx.state = .insync)
    (hbody : a.body.ofPlan = false) : s.startFrame a = s.startActive a := by
  cases hb : a.body with
  | plan | planEnd => simp [hb, OrderedBody.ofPlan] at hbody
  | _ => rcases h with h | h <;> simp only [State.startFrame, h, hb]

theorem State.startFrame_plan {s : State} {a : Applying} (h : s.rx.state ≠ .live) (hbody : a.body.ofPlan = true) :
    s.startFrame a = s.startPlan a := by
  cases hb : a.body with
  | plan | planEnd =>
    cases hstate : s.rx.state with
    | live => exact absurd hstate h
    | _ => simp only [State.startFrame, hstate, hb]
  | _ => simp [hb, OrderedBody.ofPlan] at hbody

/-! ### PLAN records (R151, R184) -/

theorem planRecord_eq_none {region policy regionEnd : Byte} {base count : BitVec 32}
    (h : 31 < region.toNat ∨ 131072 ≤ base.toNat ∨ 3 < policy.toNat ∨ 1 < regionEnd.toNat) :
    planRecord (.plan region base count policy regionEnd) = none := by
  by_cases hpolicy : 3 < policy.toNat
  · simp only [planRecord, policyOf_eq_none hpolicy]
  by_cases hend : 1 < regionEnd.toNat
  · simp only [planRecord, boolOf_eq_none hend]
    cases policyOf policy <;> rfl
  obtain ⟨p, rfl⟩ := exists_policy_code (Nat.not_lt.mp hpolicy)
  obtain ⟨v, rfl⟩ := exists_boolByte (Nat.not_lt.mp hend)
  have hout : ¬ (region.toNat < 32 ∧ base.toNat < Config.tiles) := by
    unfold Config.tiles
    omega
  simp only [planRecord, policyOf_eq_some_iff.mpr rfl, boolOf_eq_some_iff.mpr rfl, if_neg hout]

theorem exists_planRecord {region policy regionEnd : Byte} {base : BitVec 32} (count : BitVec 32)
    (hregion : region.toNat ≤ 31) (hbase : base.toNat < 131072) (hpolicy : policy.toNat ≤ 3) (hend : regionEnd.toNat ≤ 1) :
    ∃ r : Region, planRecord (.plan region base count policy regionEnd) = some (region.toNat, r) ∧ r.base = base.toNat
      ∧ r.count = count.toNat ∧ r.policy.code = policy ∧ boolByte r.regionEnd = regionEnd := by
  obtain ⟨p, rfl⟩ := exists_policy_code hpolicy
  obtain ⟨v, rfl⟩ := exists_boolByte hend
  refine ⟨⟨base.toNat, count.toNat, p, v⟩, ?_, rfl, rfl, rfl, rfl⟩
  have hin : region.toNat < 32 ∧ base.toNat < Config.tiles := ⟨Nat.lt_succ_of_le hregion, hbase⟩
  simp only [planRecord, policyOf_eq_some_iff.mpr rfl, boolOf_eq_some_iff.mpr rfl, if_pos hin]

/-! ### The tiles an install keeps (R37) -/

/-- A claim about the valid entries of the region table, in the terms of its numbered records. -/
theorem Tables.any_records (tb : Tables) {f : Region → Bool} {g : Option Region → Bool} (hnone : g none = false)
    (hsome : ∀ r, g (some r) = f r) : (tb.records.any fun e => f e.2) = tb.regions.toList.any g := by
  rw [Bool.eq_iff_iff, List.any_eq_true, List.any_eq_true]
  constructor
  · rintro ⟨e, he, hf⟩
    obtain ⟨m, -, hm⟩ := (tb.mem_records e).mp he
    exact ⟨some e.2, hm ▸ by simp, (hsome e.2).trans hf⟩
  · rintro ⟨o, ho, hg⟩
    cases o with
    | none => exact absurd (hnone.symm.trans hg) Bool.false_ne_true
    | some r =>
      obtain ⟨n, hn, hr⟩ := Vector.mem_iff_getElem.mp (Vector.mem_toList_iff.mp ho)
      exact ⟨(n, r), (tb.mem_records _).mpr ⟨⟨n, hn⟩, rfl, hr⟩, (hsome r).symm.trans hg⟩

theorem getLsbD_keptTiles (old new : List (Nat × Region)) (tile : Nat) :
    (keptTiles old new).getLsbD tile = (decide (tile < 131072) && [Policy.copy, .late, .zero].any fun p =>
      (old.any fun r => r.2.policy == p && r.2.has tile) && new.any fun r => r.2.policy == p && r.2.has tile) := by
  simp only [keptTiles, BitVec.getLsbD_or, BitVec.getLsbD_and, getLsbD_policyMask, List.any_cons, List.any_nil, Bool.or_false,
    Bool.or_assoc]
  cases decide (tile < 131072) <;> simp

/-! ### The zero fill begun (R152) -/

/-- With no sync pending and no frame in application the fill only becomes complete. -/
theorem State.fillComplete_eq {s : State} (hpending : s.rx.syncPending = false) (hnone : s.rx.applying = none) :
    s.fillComplete = { s with rx.fill := .complete } := by
  unfold State.fillComplete
  simp only [hpending, Bool.false_eq_true, if_false]
  exact State.tryFinish_unended fun a ha => absurd (ha.symm.trans hnone) (Option.some_ne_none a)

theorem State.getLsbD_unfilled (s : State) (base count tile : Nat) :
    (~~~ s.map &&& runMask base count).getLsbD tile = true ↔
      tile < 131072 ∧ s.bit tile = false ∧ base ≤ tile ∧ tile < base + count := by
  simp only [BitVec.getLsbD_and, BitVec.getLsbD_not, getLsbD_runMask, State.bit, Bool.and_eq_true, Bool.not_eq_true',
    decide_eq_true_eq]
  tauto

/-- The fill of a list of runs begins at a tile of a run that is not valid, with no write issued. -/
def State.FillBegins (s : State) (runs : List (Nat × Nat)) (q : FillPosition) : Prop :=
  q.issued = 0 ∧ q.done = 0 ∧ q.tile < 131072 ∧ s.bit q.tile = false
    ∧ ∃ run ∈ runs, run.1 ≤ q.tile ∧ q.tile < run.1 + run.2

/-- The fill of a list of runs either has every tile of theirs valid and is complete, or begins. -/
theorem State.moveFill_start {s : State} (hpending : s.rx.syncPending = false) (hnone : s.rx.applying = none)
    (runs : List (Nat × Nat)) :
    (s.moveFill runs 0 = { s with rx.fill := .complete }
      ∧ ∀ tile < 131072, (∃ run ∈ runs, run.1 ≤ tile ∧ tile < run.1 + run.2) → s.bit tile = true)
    ∨ ∃ q, s.moveFill runs 0 = { s with rx.fill := .running q } ∧ s.FillBegins runs q := by
  induction runs with
  | nil => exact .inl ⟨State.fillComplete_eq hpending hnone, by simp⟩
  | cons run runs ih =>
    obtain ⟨base, count⟩ := run
    rw [State.moveFill]
    cases hfirst : firstTile (~~~ s.map &&& runMask base count) (base + 0) with
    | some tile =>
      obtain ⟨-, hbit, -⟩ := (firstTile_eq_some_iff _ _ _).mp hfirst
      obtain ⟨hwindow, hclear, hlow, hhigh⟩ := (s.getLsbD_unfilled base count tile).mp hbit
      have htile : FillPosition.tile ⟨(base, count) :: runs, tile - base, 0, 0, [], []⟩ = tile := Nat.add_sub_cancel' hlow
      refine .inr ⟨_, rfl, rfl, rfl, ?_⟩
      rw [htile]
      exact ⟨hwindow, hclear, (base, count), List.mem_cons_self, hlow, hhigh⟩
    | none =>
      have hvalid : ∀ tile < 131072, base ≤ tile → tile < base + count → s.bit tile = true := by
        intro tile hwindow hlow hhigh
        by_contra hclear
        have hbit := (s.getLsbD_unfilled base count tile).mpr ⟨hwindow, Bool.eq_false_of_not_eq_true hclear, hlow, hhigh⟩
        exact Bool.false_ne_true (((firstTile_eq_none_iff _ _).mp hfirst tile hlow).symm.trans hbit)
      rcases ih with ⟨hcomplete, hrest⟩ | ⟨q, hrunning, hissued, hdone, hwindow, hclear, run, hrun, hin⟩
      · refine .inl ⟨hcomplete, fun tile hwindow ⟨run, hrun, hlow, hhigh⟩ => ?_⟩
        rcases List.mem_cons.mp hrun with rfl | hrun
        · exact hvalid tile hwindow hlow hhigh
        · exact hrest tile hwindow ⟨run, hrun, hlow, hhigh⟩
      · exact .inr ⟨q, hrunning, hissued, hdone, hwindow, hclear, run, List.mem_cons_of_mem _ hrun, hin⟩

/-- A tile of a ZERO run is a tile of a ZERO record. -/
theorem exists_mem_zeroRuns (plan : List (Nat × Region)) (tile : Nat) :
    (∃ run ∈ zeroRuns plan, run.1 ≤ tile ∧ tile < run.1 + run.2)
      ↔ ∃ r ∈ plan, r.2.policy = .zero ∧ r.2.has tile = true := by
  simp [zeroRuns, Region.has, and_assoc]

/-! ### The install of a plan (R37, R151) -/

/-- A plan is installed and its zero fill is still to begin. -/
def State.planTaken (s : State) : State :=
  { s with
    mem.outstanding := s.abandonFill.mem.outstanding
    tables.regions := planTable s.rx.planRecords
    map := if s.rx.state.active then s.map &&& keptTiles s.tables.records s.rx.planRecords else s.map
    rx.state := .receiving
    rx.planRecords := []
    link.control := if s.rx.state = .receiving then s.link.control else controlAdd .hello s.link.control
    mgmt := s.syncMoved .receiving }

theorem State.installPlan_eq {s : State} (hopen : s.link.state.isOpen = true) :
    s.installPlan = s.planTaken.moveFill (zeroRuns s.rx.planRecords) 0 := by
  unfold State.installPlan
  dsimp only
  rw [State.enterReceiver_open (by exact hopen)]
  rfl

/-- An install leaves the fill begun over the ZERO records of the plan, and nothing else but what it takes over from it. -/
theorem State.installPlan_fill {s : State} (hopen : s.link.state.isOpen = true) (hpending : s.rx.syncPending = false)
    (hidle : s.rx.applying = none) :
    ∃ fill, s.installPlan = { s.planTaken with rx.fill := fill }
      ∧ (fill = .complete ↔ ∀ tile < 131072, (∃ r ∈ s.rx.planRecords, r.2.policy = .zero ∧ r.2.has tile = true) →
        s.planTaken.bit tile = true)
      ∧ ∀ q, fill = .running q → q.issued = 0 ∧ q.done = 0 ∧ s.planTaken.bit q.tile = false
        ∧ ∃ r ∈ s.rx.planRecords, r.2.policy = .zero ∧ r.2.has q.tile = true := by
  rw [State.installPlan_eq hopen]
  have hruns := exists_mem_zeroRuns s.rx.planRecords
  rcases State.moveFill_start (s := s.planTaken) hpending hidle (zeroRuns s.rx.planRecords) with
    ⟨hcomplete, hvalid⟩ | ⟨q, hrunning, hissued, hdone, hwindow, hclear, hrun⟩
  · refine ⟨.complete, hcomplete, iff_of_true rfl fun tile ht hzero => hvalid tile ht ((hruns tile).mpr hzero), ?_⟩
    rintro q ⟨⟩
  · refine ⟨.running q, hrunning, iff_of_false (by simp) fun hvalid => ?_, ?_⟩
    · exact Bool.false_ne_true (hclear.symm.trans (hvalid _ hwindow ((hruns _).mp hrun)))
    · rintro _ ⟨⟩
      exact ⟨hissued, hdone, hclear, (hruns _).mp hrun⟩

/-- An install in RECEIVING or INSYNC keeps the valid bits of the tiles of one policy, other than SKIP, in both tables (R37). -/
theorem State.planTaken_bit {s : State} (hactive : s.rx.state = .receiving ∨ s.rx.state = .insync)
    {g : Policy → Nat → Option Region → Bool} (hnone : ∀ p tile, g p tile none = false)
    (hsome : ∀ p tile r, g p tile (some r) = (r.policy == p && r.has tile)) (tile : Nat) :
    s.planTaken.bit tile = (s.bit tile && [Policy.copy, .late, .zero].any fun p =>
      s.tables.regions.toList.any (g p tile) && s.rx.planRecords.any fun r => r.2.policy == p && r.2.has tile) := by
  have hmap : s.planTaken.map = s.map &&& keptTiles s.tables.records s.rx.planRecords :=
    if_pos ((ReceiverState.active_iff _).mpr hactive)
  have hold : ∀ p, (s.tables.records.any fun e => e.2.policy == p && e.2.has tile) = s.tables.regions.toList.any (g p tile) :=
    fun p => s.tables.any_records (f := fun r => r.policy == p && r.has tile) (hnone p tile) (hsome p tile)
  simp only [State.bit, hmap, BitVec.getLsbD_and, getLsbD_keptTiles, hold]
  by_cases htile : tile < 131072
  · simp [htile]
  · simp [BitVec.getLsbD_of_ge s.map tile (Nat.not_lt.mp htile)]

theorem State.planTaken_map_idle {s : State} (h : s.rx.state = .idle) : s.planTaken.map = s.map :=
  if_neg (by simp [h, ReceiverState.active])

theorem planTable_getElem (plan : List (Nat × Region)) (n : Fin 32) :
    (planTable plan)[n] = (plan.find? fun r => r.1 == n.val).map fun r => r.2 := by
  simp [planTable]

theorem State.abandonFill_owner {s : State} {x : FarTransfer} (hx : x ∈ s.abandonFill.mem.outstanding) (tile line : Nat) :
    x.owner ≠ .fill tile line := by
  obtain ⟨y, -, rfl⟩ := List.mem_map.mp hx
  cases hy : y.owner <;> simp [hy]

theorem recordsFit_iff (plan : List (Nat × Region)) (size : Nat) :
    recordsFit plan size = true ↔ ∀ r ∈ plan, 1 ≤ r.2.count ∧ r.2.base + r.2.count ≤ size := by
  simp only [recordsFit, List.all_eq_true, decide_eq_true_eq]

theorem State.planTaken_frame (s : State) (rest : List RxItem) (fill : Fill) :
    s.changesOnly { (s.popped rest).planTaken with rx.fill := fill } [.mem, .tables, .map, .rx, .link, .mgmt] := by
  intro b hb
  cases b with
  | mem | tables | map | rx | link | mgmt => simp at hb
  | _ => rfl

/-! ### The frames without a transfer (R151, R161, R162) -/

namespace State.MayTake

section
variable {s : State} {seq : Seq} {body : OrderedBody} {rest : List RxItem} (h : s.MayTake seq body rest)
include h

/-- The receiver changes its state as it takes the frame, which raises HELLO. -/
theorem popped_enterReceiver {st : ReceiverState} (hst : s.rx.state ≠ st) :
    (s.popped rest).enterReceiver st = { s.popped rest with
      rx.state := st
      link.control := controlAdd .hello s.link.control
      mgmt := s.syncMoved st } := by
  rw [State.enterReceiver_open h.popped_isOpen]
  have hcontrol : (s.popped rest).link.control = s.link.control := s.link.returned_control 1
  have hne : (s.popped rest).rx.state ≠ st := hst
  simp only [if_neg hne, hcontrol]
  rfl

/-- A frame that an active receiver applies as it is taken. -/
theorem exec_active {u : State} (hactive : s.rx.state = .receiving ∨ s.rx.state = .insync) (hplan : body.ofPlan = false)
    (hbody : body ≠ .handover)
    (hstart : (s.popped rest).startActive (Applying.start seq body) = (u, Applying.start seq body))
    (hlink : ∃ control, u.link = { (s.popped rest).link with control := control }) :
    exec .applierTake s = .next (u.appliedNow seq none) :=
  h.exec_applied ((State.startFrame_active (s := s.popped rest) hactive hplan).trans hstart) hlink (.inl hbody) (by simp)

/-- A frame of a plan, outside LIVE. -/
theorem exec_ofPlan {u : State} {report : Option Report} (hlive : s.rx.state ≠ .live) (hplan : body.ofPlan = true)
    (hreport : ∀ r, report = some r → r.isApplied = false)
    (hstart : (s.popped rest).startPlan (Applying.start seq body) = (u, { Applying.start seq body with report := report }))
    (hlink : ∃ control, u.link = { (s.popped rest).link with control := control }) :
    exec .applierTake s = .next (u.appliedNow seq report) := by
  have hbody : body ≠ .handover := by
    rintro rfl
    exact Bool.false_ne_true hplan
  exact h.exec_applied ((State.startFrame_plan (s := s.popped rest) hlive hplan).trans hstart) hlink (.inl hbody) hreport

end

variable {s : State} {seq : Seq} {rest : List RxItem}

theorem exec_syncMark_complete (h : s.MayTake seq .syncMark rest) (hstate : s.rx.state = .receiving)
    (hfill : s.rx.fill = .complete) : exec .applierTake s = .next (State.appliedNow { s.popped rest with
      rx.state := .insync
      link.control := controlAdd .hello s.link.control
      mgmt := s.mgmt.raise s.cfg.eventMask .insyncEnter } seq none) := by
  refine h.exec_active (.inl hstate) rfl (by simp) ?_ ⟨_, rfl⟩
  have hmgmt := State.syncMoved_rise (st := .insync) (congrArg ReceiverState.synced hstate) rfl
  rw [← hmgmt, ← h.popped_enterReceiver (hstate.trans_ne (by decide))]
  exact (if_pos hstate).trans (if_pos hfill)

theorem exec_syncMark_pending (h : s.MayTake seq .syncMark rest) (hstate : s.rx.state = .receiving)
    (hfill : s.rx.fill ≠ .complete) : exec .applierTake s =
      .next (State.appliedNow { s.popped rest with rx.syncPending := true } seq none) :=
  h.exec_active (.inl hstate) rfl (by simp) ((if_pos hstate).trans (if_neg hfill)) ⟨_, rfl⟩

theorem exec_syncMark_insync (h : s.MayTake seq .syncMark rest) (hstate : s.rx.state = .insync) :
    exec .applierTake s = .next ((s.popped rest).appliedNow seq none) := by
  have hnot : (s.popped rest).rx.state ≠ .receiving := hstate.trans_ne (by decide)
  exact h.exec_active (.inr hstate) rfl (by simp) (if_neg hnot) ⟨_, rfl⟩

theorem exec_unsyncMark_insync (h : s.MayTake seq .unsyncMark rest) (hstate : s.rx.state = .insync) :
    exec .applierTake s = .next (State.appliedNow { s.popped rest with
      rx.state := .receiving
      link.control := controlAdd .hello s.link.control
      mgmt := s.mgmt.raise s.cfg.eventMask .insyncLeave } seq none) := by
  refine h.exec_active (.inr hstate) rfl (by simp) ?_ ⟨_, rfl⟩
  have hmgmt := State.syncMoved_fall (st := .receiving) (congrArg ReceiverState.synced hstate) rfl
  rw [← hmgmt, ← h.popped_enterReceiver (hstate.trans_ne (by decide))]
  exact if_pos hstate

theorem exec_unsyncMark_receiving (h : s.MayTake seq .unsyncMark rest) (hstate : s.rx.state = .receiving) :
    exec .applierTake s = .next (State.appliedNow { s.popped rest with rx.syncPending := false } seq none) := by
  have hnot : (s.popped rest).rx.state ≠ .insync := hstate.trans_ne (by decide)
  exact h.exec_active (.inl hstate) rfl (by simp) (if_neg hnot) ⟨_, rfl⟩

theorem exec_quarantine_joins {tile : BitVec 32} (h : s.MayTake seq (.quarantine tile) rest)
    (hactive : s.rx.state = .receiving ∨ s.rx.state = .insync) (hnamed : tile.toNat < 131072)
    (hnew : tile.toNat ∉ s.rx.quarantine) (hroom : s.rx.quarantine.length < 16) :
    exec .applierTake s = .next (State.appliedNow { s.popped rest with
      rx.quarantine := s.rx.quarantine ++ [tile.toNat]
      rx.demands := s.rx.demands.filter fun d => d.tile != tile.toNat
      rx.expired := s.rx.expired.filter fun u => u != tile.toNat } seq none) := by
  have hjoins : (!(s.popped rest).rxQuarantined tile.toNat &&
      decide ((s.popped rest).rx.quarantine.length < Config.faultLimit)) = true := by
    simp [State.rxQuarantined, State.popped, Config.faultLimit, hnew, hroom]
  exact h.exec_active hactive rfl (by simp) ((if_pos (decide_eq_true hnamed)).trans (if_pos hjoins)) ⟨_, rfl⟩

theorem exec_quarantine_ignored {tile : BitVec 32} (h : s.MayTake seq (.quarantine tile) rest)
    (hactive : s.rx.state = .receiving ∨ s.rx.state = .insync)
    (hout : 131072 ≤ tile.toNat ∨ tile.toNat ∈ s.rx.quarantine ∨ 16 ≤ s.rx.quarantine.length) :
    exec .applierTake s = .next ((s.popped rest).appliedNow seq none) := by
  refine h.exec_active hactive rfl (by simp) ?_ ⟨_, rfl⟩
  simp only [State.startActive, Applying.start]
  split_ifs with hnamed hjoins
  · obtain ⟨hnew, hroom⟩ := Bool.and_eq_true_iff.mp hjoins
    have hnamed : tile.toNat < 131072 := of_decide_eq_true hnamed
    have hroom : s.rx.quarantine.length < 16 := of_decide_eq_true hroom
    have hnew : tile.toNat ∉ s.rx.quarantine := by simpa [State.rxQuarantined, State.popped] using hnew
    rcases hout with hout | hout | hout
    exacts [absurd hnamed (Nat.not_lt.mpr hout), absurd hout hnew, absurd hroom (Nat.not_lt.mpr hout)]
  · rfl
  · rfl

theorem exec_abandonTile_assembled {tile : BitVec 32} (h : s.MayTake seq (.abandonTile tile) rest)
    (hactive : s.rx.state = .receiving ∨ s.rx.state = .insync) {n : Nat} {broken : Bool}
    (hassembly : s.rx.assembly = some ⟨tile.toNat, n, broken⟩) :
    exec .applierTake s = .next (State.appliedNow
      { s.popped rest with rx.assembly := none, map := clearBit s.map tile.toNat } seq none) := by
  refine h.exec_active hactive rfl (by simp) ?_ ⟨_, rfl⟩
  have hpopped : (s.popped rest).rx.assembly = some ⟨tile.toNat, n, broken⟩ := hassembly
  simp only [State.startActive, Applying.start, hpopped, if_true]
  rfl

theorem exec_abandonTile_other {tile : BitVec 32} (h : s.MayTake seq (.abandonTile tile) rest)
    (hactive : s.rx.state = .receiving ∨ s.rx.state = .insync)
    (hother : ∀ n broken, s.rx.assembly ≠ some ⟨tile.toNat, n, broken⟩) :
    exec .applierTake s = .next ((s.popped rest).appliedNow seq none) := by
  refine h.exec_active hactive rfl (by simp) ?_ ⟨_, rfl⟩
  simp only [State.startActive, Applying.start]
  split
  · next m hm => exact if_neg fun htile => hother m.next m.broken (hm.trans (by rw [← htile]))
  · rfl

/-- HANDOVER waits in application for the zero fill (R162). -/
theorem exec_handover_waits (h : s.MayTake seq .handover rest) (hactive : s.rx.state = .receiving ∨ s.rx.state = .insync)
    (hfill : s.rx.fill ≠ .complete) :
    exec .applierTake s = .next { s.popped rest with rx.applying := some (Applying.start seq .handover) } := by
  rw [h.exec_started (State.startFrame_active (s := s.popped rest) hactive rfl), State.tryFinish_unended]
  rintro a ⟨⟩
  exact .inr ⟨rfl, hfill, hactive⟩

theorem exec_handover_applied (h : s.MayTake seq .handover rest) (hactive : s.rx.state = .receiving ∨ s.rx.state = .insync)
    (hfill : s.rx.fill = .complete) : exec .applierTake s = .next (State.appliedNow { s.popped rest with
      rx.state := .live
      rx.demands := []
      rx.expired := []
      link.control := controlAdd .hello s.link.control
      mgmt := if s.rx.state = .receiving then s.mgmt.raise s.cfg.eventMask .insyncEnter else s.mgmt } seq none) := by
  have hmgmt : s.syncMoved .live = if s.rx.state = .receiving then s.mgmt.raise s.cfg.eventMask .insyncEnter else s.mgmt := by
    rcases hactive with hstate | hstate <;> simp [State.syncMoved, hstate, ReceiverState.synced]
  let u : State := { s.popped rest with rx.applying := some (Applying.start seq .handover) }
  have hfinish := State.tryFinish_applied (s := u) rfl rfl rfl h.popped_isOpen h.popped_room
    (fun _ _ => hfill) (by simp [Applying.start])
  rw [h.exec_started (State.startFrame_active (s := s.popped rest) hactive rfl), hfinish,
    State.applyHandover_active (s := u) h.popped_isOpen rfl ((ReceiverState.active_iff _).mpr hactive), ← hmgmt,
    ← s.link.returned_control 1]
  rfl

theorem exec_plan_ignored {region policy regionEnd : Byte} {base count : BitVec 32}
    (h : s.MayTake seq (.plan region base count policy regionEnd) rest) (hlive : s.rx.state ≠ .live)
    (hout : 31 < region.toNat ∨ 131072 ≤ base.toNat ∨ 3 < policy.toNat ∨ 1 < regionEnd.toNat) :
    exec .applierTake s = .next ((s.popped rest).appliedNow seq none) := by
  refine h.exec_ofPlan hlive rfl (by simp) ?_ ⟨_, rfl⟩
  simp only [State.startPlan, Applying.start, planRecord_eq_none hout]

theorem exec_plan_joins {region policy regionEnd : Byte} {base count : BitVec 32}
    (h : s.MayTake seq (.plan region base count policy regionEnd) rest) (hlive : s.rx.state ≠ .live) {r : Nat × Region}
    (hrecord : planRecord (.plan region base count policy regionEnd) = some r) :
    exec .applierTake s =
      .next (State.appliedNow { s.popped rest with rx.planRecords := addRecord s.rx.planRecords r } seq none) := by
  refine h.exec_ofPlan hlive rfl (by simp) ?_ ⟨_, rfl⟩
  simp only [State.startPlan, Applying.start, hrecord]
  rfl

theorem exec_planEnd_refused (h : s.MayTake seq .planEnd rest) (hlive : s.rx.state ≠ .live)
    (hfits : ¬ recordsFit s.rx.planRecords s.mgmt.size = true) : exec .applierTake s =
      .next (State.appliedNow { s.popped rest with rx.planRecords := [] } seq (some (.planRefuse 1))) :=
  h.exec_ofPlan hlive rfl (by simp [Report.isApplied]) (if_neg hfits) ⟨_, rfl⟩

/-- A plan that fits is installed and acknowledged (R151). -/
theorem exec_planEnd_installed (h : s.MayTake seq .planEnd rest) (hlive : s.rx.state ≠ .live)
    (hfits : recordsFit s.rx.planRecords s.mgmt.size = true) {fill : Fill}
    (hinstall : (s.popped rest).installPlan = { (s.popped rest).planTaken with rx.fill := fill }) : exec .applierTake s =
      .next (State.appliedNow { (s.popped rest).planTaken with rx.fill := fill } seq (some (.planAck s.rx.held))) := by
  refine h.exec_ofPlan hlive rfl (by simp [Report.isApplied]) ?_ ⟨_, rfl⟩
  rw [← hinstall]
  exact if_pos hfits

end State.MayTake

/-! ### The demand wait (R165) -/

theorem exec_demandWaitExpiry_none {s : State} {tile : Nat} (h : ∀ d ∈ s.rx.demands, d.tile ≠ tile) :
    exec (.demandWaitExpiry tile) s = .next s :=
  congrArg Host.Outcome.next (if_neg (by simpa using h))

theorem exec_demandWaitExpiry_some {s : State} {tile : Nat} (h : ∃ d ∈ s.rx.demands, d.tile = tile) :
    exec (.demandWaitExpiry tile) s = .next (s.demandExpire tile) :=
  congrArg Host.Outcome.next (if_pos (by simpa using h))

end Sys2Proof.Machine

/-! PROOFS. The applier on marks, the plan, HANDOVER and markers, and the demand wait (R36, R37, R138, R151, R152, R157, R158,
R161, R162, R165, R184): O56. -/

namespace Sys2Proof.Proofs
open Sys2Proof.Machine

/-- Settles O56: a frame that calls for no transfer is applied as it is taken, by the rule of its kind; an install is read off the
state in which the plan is taken and the place where its fill begins; and a frame that finds no room waits. -/
theorem applierTakesMarks : Obligations.ApplierTakesMarks := by
  refine ⟨fun seq body rest s hrole hopen hidle hbuffer hroom => ?_, fun s => exec_applierTake_markers,
    fun seq body rest s hrole hopen hbuffer hfull => ?_,
    fun tile s => ⟨exec_demandWaitExpiry_none, exec_demandWaitExpiry_some⟩⟩
  · intro taken plain active moved
    have h : s.MayTake seq body rest := ⟨hrole, (LinkState.isOpen_iff _).mpr hopen, hidle, hbuffer, hroom⟩
    refine ⟨fun hstate => ?_, fun hstate hend hplan => ?_, ?_, ?_, ?_, ?_, ?_, ?_, ?_⟩
    · have hinactive : s.rx.state.active = false := congrArg ReceiverState.active hstate
      exact h.exec_plain (State.startFrame_live (s := s.popped rest) hstate _) (.inr hinactive)
    · have hother : body.ofPlan = false := body.ofPlan_eq_false_iff.mpr ⟨hend, hplan⟩
      have hinactive : s.rx.state.active = false := congrArg ReceiverState.active hstate
      exact h.exec_plain (State.startFrame_idle (s := s.popped rest) hstate hother) (.inr hinactive)
    · rintro rfl -
      exact ⟨h.exec_syncMark_complete, h.exec_syncMark_pending, h.exec_syncMark_insync⟩
    · rintro rfl -
      exact ⟨h.exec_unsyncMark_insync, h.exec_unsyncMark_receiving⟩
    · rintro tile rfl hactive
      exact ⟨h.exec_quarantine_joins hactive, h.exec_quarantine_ignored hactive⟩
    · rintro tile rfl hactive
      exact ⟨fun ⟨_, _, hassembly⟩ => h.exec_abandonTile_assembled hactive hassembly, h.exec_abandonTile_other hactive⟩
    · rintro rfl hactive
      exact ⟨h.exec_handover_waits hactive, h.exec_handover_applied hactive⟩
    · rintro region base count policy regionEnd rfl hlive
      refine ⟨h.exec_plan_ignored hlive, fun hregion hbase hpolicy hend => ?_⟩
      obtain ⟨r, hrecord, hrbase, hrcount, hrpolicy, hrend⟩ := exists_planRecord count hregion hbase hpolicy hend
      exact ⟨r, hrbase, hrcount, hrpolicy, hrend, h.exec_plan_joins hlive hrecord⟩
    · rintro rfl hlive plan fits
      have hrecords : recordsFit s.rx.planRecords s.mgmt.size = true ↔ fits := recordsFit_iff _ _
      refine ⟨fun hfits => h.exec_planEnd_refused hlive (hrecords.not.mpr hfits), fun hfits hpending => ?_⟩
      obtain ⟨fill, hinstall, hcomplete, hrunning⟩ :=
        State.installPlan_fill (s := s.popped rest) h.popped_isOpen hpending hidle
      have hmgmt : s.syncMoved .receiving
          = if s.rx.state = .insync then s.mgmt.raise s.cfg.eventMask .insyncLeave else s.mgmt := by
        cases hstate : s.rx.state with
        | live => exact absurd hstate hlive
        | insync => exact State.syncMoved_fall (congrArg ReceiverState.synced hstate) rfl
        | idle | receiving => exact State.syncMoved_level (congrArg ReceiverState.synced hstate :)
      refine ⟨_, h.exec_planEnd_installed hlive (hrecords.mpr hfits) hinstall, rfl, planTable_getElem plan, rfl,
        State.planTaken_map_idle (s := s.popped rest), fun hactive => ?_, hcomplete, fun q hq => ?_, fun x hx => ?_, rfl, hmgmt,
        ?_⟩
      · exact State.planTaken_bit (s := s.popped rest) hactive (fun _ _ => rfl) fun _ _ _ => rfl
      · exact hrunning q hq
      · exact State.abandonFill_owner (s := s.popped rest) hx
      · exact s.planTaken_frame rest fill
  · refine exec_applierTake_full hrole ((LinkState.isOpen_iff _).mpr hopen) hbuffer ?_
    have hone := mayHand_pos body
    rcases hfull with hfull | ⟨hplace, hreports⟩
    · omega
    · have htwo : mayHand body = 2 := by
        rcases hreports with rfl | ⟨_, _, _, rfl⟩ | ⟨_, _, _, _, rfl⟩ | ⟨_, _, rfl⟩ <;> rfl
      omega

end Sys2Proof.Proofs
end

section
/-! SUPPORT. Rules of the arbiter on the receiver (R13, R14, R152, R159, R160, R173): nothing is tracked or kept back there, which
requester a grant goes to, and what a grant to the board leaves. -/

namespace Sys2Proof.Machine

theorem MemoryPath.internalRoom_iff (m : MemoryPath) : m.internalRoom = true ↔ m.internal < 16 := decide_eq_true_iff

/-! ### A receiver tracks nothing (R45) -/

section
variable {s : State} (hrole : s.mgmt.role = .receiver)
include hrole

theorem State.category_receiver : s.category = .untracked := if_neg (by simp [hrole])

theorem State.keptBack_receiver : s.keptBack = false := by
  unfold State.keptBack
  split
  · rfl
  · simp [State.mirrorDue, State.category_receiver hrole]

theorem State.track_receiver (x : Transfer) : s.track x = s := by
  simp [State.track, State.category_receiver hrole]

/-- On a receiver no head is kept back and no walk moves before the choice. -/
theorem State.choosing_receiver : s.choosing = s := by
  have hwalks : s.mayBegin = false := by simp [State.mayBegin, hrole]
  simp [State.choosing, State.testHead, State.keptBack_receiver hrole, State.moveWalks, hwalks]

theorem State.passWaits_receiver : s.passWaits = true ↔ s.mem.queue ≠ [] := by
  simp [State.passWaits, State.keptBack_receiver hrole]

/-! ### The choice on the receiver (R13, R14) -/

theorem State.applyWaits_receiver :
    s.applyWaits = true ↔ s.mem.internal < 16 ∧ ∃ a, s.rx.applying = some a ∧ a.next ≠ none := by
  have hnext : s.nextApply.isSome = true ↔ ∃ a, s.rx.applying = some a ∧ a.next ≠ none := by
    unfold State.nextApply
    cases s.rx.applying <;> simp [Option.isSome_iff_ne_none]
  simp only [State.applyWaits, hrole, beq_self_eq_true, Bool.true_and, Bool.and_eq_true, MemoryPath.internalRoom_iff, hnext]

theorem State.fillWaits_receiver :
    s.fillWaits = true ↔ s.mem.internal < 16 ∧ ∃ p, s.rx.fill = .running p ∧ p.next ≠ none := by
  have hnext : s.nextFill.isSome = true ↔ ∃ p, s.rx.fill = .running p ∧ p.next ≠ none := by
    unfold State.nextFill
    cases s.rx.fill <;> simp [Option.isSome_iff_ne_none]
  simp only [State.fillWaits, hrole, beq_self_eq_true, Bool.true_and, Bool.and_eq_true, MemoryPath.internalRoom_iff, hnext]

theorem State.internalWaits_receiver : s.internalWaits = (s.applyWaits || s.fillWaits) := by
  simp [State.internalWaits, State.copyWaits, hrole]

/-- Where an internal requester may not be granted, or none waits, the grant is the board's. -/
theorem exec_arbiterGrant_board
    (h : ¬ (s.pairHold = false ∧ (s.mem.queue = [] ∨ 0 < s.creditNow)) ∨ s.internalWaits = false) :
    exec .arbiterGrant s = .next (if s.mem.queue = [] then s else s.grantPass.countGrant s.creditNow) := by
  have hpass := State.passWaits_receiver hrole
  have hnot : ¬ (s.internalWaits && !s.pairHold && (!s.passWaits || decide (0 < s.creditNow))) = true := by
    intro hgrant
    simp only [Bool.and_eq_true, Bool.or_eq_true, Bool.not_eq_true', decide_eq_true_eq, ← Bool.not_eq_true, hpass,
      not_not] at hgrant
    obtain ⟨⟨hwaits, hhold⟩, hcredit⟩ := hgrant
    rcases h with h | h
    · exact h ⟨Bool.eq_false_of_not_eq_true hhold, hcredit⟩
    · exact Bool.false_ne_true (h.symm.trans hwaits)
  rw [exec_arbiterGrant, State.choosing_receiver hrole, State.arbitrate, if_neg hnot]
  by_cases hqueue : s.mem.queue = []
  · rw [if_neg (mt hpass.mp (not_not.mpr hqueue)), if_pos hqueue]
  · rw [if_pos (hpass.mpr hqueue), if_neg hqueue]

/-- An internal requester that waits is granted where the pair holds and the credit let it, and a board transfer that waits
meanwhile takes one of the credit (R14). -/
theorem exec_arbiterGrant_internal {t : State} (hhold : s.pairHold = false)
    (hcredit : s.mem.queue = [] ∨ 0 < s.creditNow) (hwaits : s.internalWaits = true) (hgrant : s.grantInternal = (t, true)) :
    exec .arbiterGrant s = .next (t.countGrant (if s.mem.queue = [] then s.creditNow else s.creditNow - 1)) := by
  have hpass := State.passWaits_receiver hrole
  have hfree : (!s.passWaits || decide (0 < s.creditNow)) = true := by
    simpa only [Bool.or_eq_true, Bool.not_eq_true', decide_eq_true_eq, ← Bool.not_eq_true, hpass, not_not] using hcredit
  have hleft : (if s.passWaits then s.creditNow - 1 else s.creditNow)
      = if s.mem.queue = [] then s.creditNow else s.creditNow - 1 := by
    by_cases hqueue : s.mem.queue = [] <;> simp [hpass, hqueue]
  rw [exec_arbiterGrant, State.choosing_receiver hrole, State.arbitrate]
  simp only [hwaits, hhold, hfree, hgrant, hleft, Bool.not_false, Bool.and_self, if_true]

theorem exec_arbiterGrant_apply {a : Applying} {n : Nat} {again : Bool} (hhold : s.pairHold = false)
    (hcredit : s.mem.queue = [] ∨ 0 < s.creditNow) (hroom : s.mem.internal < 16) (ha : s.rx.applying = some a)
    (hnext : a.next = some (n, again)) : exec .arbiterGrant s =
      .next ((s.grantApply a n again).countGrant (if s.mem.queue = [] then s.creditNow else s.creditNow - 1)) := by
  have hwaits : s.applyWaits = true := (State.applyWaits_receiver hrole).mpr ⟨hroom, a, ha, by simp [hnext]⟩
  refine exec_arbiterGrant_internal hrole hhold hcredit ?_ ?_
  · rw [State.internalWaits_receiver hrole, hwaits, Bool.true_or]
  · have happly : s.nextApply = some (a, n, again) := by simp [State.nextApply, ha, hnext]
    simp only [State.grantInternal, happly, hwaits, if_true]

theorem exec_arbiterGrant_fill {p : FillPosition} {n : Nat} {again : Bool} (hhold : s.pairHold = false)
    (hcredit : s.mem.queue = [] ∨ 0 < s.creditNow) (hroom : s.mem.internal < 16)
    (hnone : ∀ a, s.rx.applying = some a → a.next = none) (hp : s.rx.fill = .running p) (hnext : p.next = some (n, again)) :
    exec .arbiterGrant s =
      .next ((s.grantFill p n again).countGrant (if s.mem.queue = [] then s.creditNow else s.creditNow - 1)) := by
  have hwaits : s.fillWaits = true := (State.fillWaits_receiver hrole).mpr ⟨hroom, p, hp, by simp [hnext]⟩
  refine exec_arbiterGrant_internal hrole hhold hcredit ?_ ?_
  · rw [State.internalWaits_receiver hrole, hwaits, Bool.or_true]
  · have happly : s.nextApply = none := by
      unfold State.nextApply
      split
      · next a ha => simp [hnone a ha]
      · rfl
    have hfill : s.nextFill = some (p, n, again) := by simp [State.nextFill, hp, hnext]
    simp only [State.grantInternal, happly, hfill, hwaits, if_true]

/-- On a receiver a grant to the board changes the memory path and stops the stall timer, and nothing else. -/
theorem State.grantPass_receiver (hqueue : s.mem.queue ≠ []) :
    s.grantPass = { s with mem := s.grantPass.mem, mon.stall := .stopped } := by
  obtain ⟨x, rest, hsplit⟩ := List.exists_cons_of_ne_nil hqueue
  have htrack : State.track { s with mem.queue := rest, mon.stall := .stopped } x
      = { s with mem.queue := rest, mon.stall := .stopped } := State.track_receiver (by exact hrole) x
  simp only [State.grantPass, hsplit, htrack]
  cases x.kind <;> rfl

end

end Sys2Proof.Machine

/-! PROOFS. The choice of the arbiter on the receiver (R13, R14, R152, R159, R160, R173): O22. -/

namespace Sys2Proof.Proofs
open Sys2Proof.Machine

/-- Settles O22: the pair holds, the credit and the requesters that wait say where the grant goes; a grant to APPLY is read off by
the kind of the frame, and one to FILL is a line of zeros. -/
theorem receiverGrantsApplyThenFill : Obligations.ReceiverGrantsApplyThenFill := by
  intro s hrole room applies fills free left
  have hwaits : s.internalWaits = true ↔ applies ∨ fills := by
    rw [State.internalWaits_receiver hrole, Bool.or_eq_true, State.applyWaits_receiver hrole, State.fillWaits_receiver hrole]
  refine ⟨fun h => ?_, fun hfree hroom a n again ha hnext => ?_, fun hfree hroom p n again hnone hp hnext => ?_⟩
  · have hboard := exec_arbiterGrant_board hrole (h.imp_right fun h => Bool.eq_false_of_not_eq_true (mt hwaits.mp h))
    refine ⟨fun hqueue => by rw [hboard, if_pos hqueue], fun hqueue => ?_⟩
    rw [hboard, if_neg hqueue]
    refine ⟨_, rfl, s.grantPass_passGranted s.creditNow, ?_⟩
    rw [State.countGrant, State.grantPass_receiver hrole hqueue]
  · obtain ⟨hhold, hcredit⟩ := hfree
    have hgrant := exec_arbiterGrant_apply hrole hhold hcredit hroom ha hnext
    intro granted
    refine ⟨fun tile chunk data hbody => ?_, fun addr mask data hbody => ?_, fun addr mask data hbody => ?_,
      fun tile value hbody => ?_⟩
    all_goals
      cases a
      cases hbody
      exact hgrant
  · obtain ⟨hhold, hcredit⟩ := hfree
    exact exec_arbiterGrant_fill hrole hhold hcredit hroom hnone hp hnext

end Sys2Proof.Proofs
end

section
/-! SUPPORT. Rules of the transfers of the frame in application (R155, R158 to R160, R163, R173): how each way to end acts on the
frame, and how a frame whose transfers have all ended is applied. -/

namespace Sys2Proof.Machine

/-! ### A frame with no transfer left (R155, R158, R163) -/

/-- A frame is applied with a report where the report list has room, or counted only where it met a link loss (R155, R163). -/
def State.appliedWith (s : State) (a : Applying) (report : Option Report) : State :=
  if a.silent then { s with rx.applying := none, rx.appliedCount := s.rx.appliedCount + 1 }
  else s.appliedNow a.seq report

/-- The end of a frame's application changes the link, the frame in application and the applied count. -/
theorem State.finishFrame_frame (s : State) (a : Applying) : s.finishFrame a =
    { s with
      link := (s.finishFrame a).link
      rx.applying := none
      rx.appliedCount := (s.finishFrame a).rx.appliedCount } := by
  simp only [State.finishFrame]
  cases a.report <;> split_ifs <;> rfl

/-- A frame other than HANDOVER leaves the same, applied or not. -/
theorem State.tryFinish_frame {s : State} (hbody : ∀ a, s.rx.applying = some a → a.body ≠ .handover) : s.tryFinish =
    { s with
      link := s.tryFinish.link
      rx.applying := s.tryFinish.rx.applying
      rx.appliedCount := s.tryFinish.rx.appliedCount } := by
  unfold State.tryFinish
  split
  · rfl
  · next a ha =>
    split
    · rw [State.applyHandover_other (.inl (hbody a ha)), State.finishFrame_frame]
    · rfl

/-- With its transfers terminated a frame other than HANDOVER is applied where the link is open and the report list has room. -/
theorem State.tryFinish_ended {s : State} {a : Applying} (ha : s.rx.applying = some a) (hended : a.total ≤ a.done)
    (hbody : a.body ≠ .handover) (hopen : s.link.state.isOpen = true) (hroom : s.link.reports.length + 2 ≤ 64)
    (hreport : ∀ r, a.report = some r → r.isApplied = false) : s.tryFinish = s.appliedWith a a.report := by
  unfold State.appliedWith
  split_ifs with hsilent
  · exact State.tryFinish_silent ha hsilent hended hbody
  · rw [State.tryFinish_applied ha (decide_eq_true hended) (Bool.eq_false_of_not_eq_true hsilent) hopen hroom
      (fun h => absurd h hbody) hreport, State.applyHandover_other (.inl hbody)]

/-! ### After the last transfer (R159, R173) -/

theorem State.endTransfers_going {s : State} {a : Applying} (h : a.done < a.total) :
    s.endTransfers a = { s with rx.applying := some a } :=
  if_neg (by simpa [Applying.ended] using h)

/-- The last transfer of a frame that completes no assembly: the frame is applied with its result. -/
theorem State.endTransfers_applied {s : State} {a : Applying} (hended : a.total ≤ a.done) (hbody : a.body ≠ .handover)
    (hassembly : (∀ tile chunk data, a.body ≠ .tileChunk tile chunk data) ∨ a.failed = true)
    (hopen : s.link.state.isOpen = true) (hroom : s.link.reports.length + 2 ≤ 64)
    (hreport : ∀ r, a.result = some r → r.isApplied = false) : s.endTransfers a = s.appliedWith a a.result := by
  have hfinish : s.endTransfers a = State.tryFinish { s with rx.applying := some { a with report := a.result } } := by
    refine (if_pos (decide_eq_true hended)).trans (congrArg State.tryFinish ?_)
    rcases hassembly with hchunk | hfailed
    · split
      · next tile chunk data h => exact absurd h (hchunk tile chunk data)
      · rfl
    · simp only [hfailed, Bool.not_true, Bool.and_false, Bool.false_eq_true, if_false]
      split <;> rfl
  have happlied := State.tryFinish_ended (s := { s with rx.applying := some { a with report := a.result } }) rfl hended hbody
    hopen hroom hreport
  rw [hfinish, happlied]
  unfold State.appliedWith State.appliedNow
  split_ifs <;> rfl

/-- The last transfer of a chunk 63: the assembly is judged where no transfer failed (R159). -/
theorem State.endTransfers_lastChunk {s : State} {a : Applying} {tile : BitVec 32} {data : ChunkData}
    (hended : a.total ≤ a.done) (hbody : a.body = .tileChunk tile 63 data) : s.endTransfers a =
      State.tryFinish (if a.failed then { s with rx.applying := some a }
        else State.endAssembly { s with rx.applying := some a } tile.toNat) := by
  refine (if_pos (decide_eq_true hended)).trans (congrArg State.tryFinish ?_)
  cases a
  cases hbody
  simp only [Applying.result, true_and, Bool.and_eq_true, decide_true, Bool.not_eq_true']
  split_ifs <;> simp_all

theorem State.endAssembly_whole {s : State} {m : Assembly} (hm : s.rx.assembly = some m) (hnext : m.next = 64)
    (hbroken : m.broken = false) : s.endAssembly m.tile = State.makeValid { s with rx.assembly := none } m.tile := by
  simp [State.endAssembly, hm, hnext, hbroken, Config.tileChunks]

theorem State.endAssembly_broken {s : State} {m : Assembly} (hm : s.rx.assembly = some m) (hbroken : m.broken = true)
    (tile : Nat) : s.endAssembly tile = s := by
  simp [State.endAssembly, hm, hbroken]

/-! ### The results of a frame (R159, R160, R173) -/

theorem Applying.result_other {a : Applying} (h : ∀ tile value, a.body ≠ .digest tile value) : a.result = a.report := by
  unfold Applying.result
  split
  · next tile value hbody => exact absurd hbody (h tile value)
  · rfl

/-- DIGEST_RESULT says MATCH where every read was DONE and the digests agree (R173). -/
theorem Applying.result_digest {a : Applying} {tile value : BitVec 32} (h : a.body = .digest tile value) : a.result =
    some (.digestResult a.seq tile (if a.failed = false ∧ digestOf (bufferLines a.buffer) = value then 0 else 1)) := by
  simp only [Applying.result, h, Bool.and_eq_true, Bool.not_eq_true', beq_iff_eq]

/-- The last read of a digest ends it with DIGEST_RESULT (R173). -/
theorem State.endTransfers_digest {s : State} {a : Applying} {tile value : BitVec 32} (hbody : a.body = .digest tile value)
    (hended : a.total ≤ a.done) (hopen : s.link.state.isOpen = true) (hroom : s.link.reports.length + 2 ≤ 64) :
    s.endTransfers a = s.appliedWith a (some (.digestResult a.seq tile
      (if a.failed = false ∧ digestOf (bufferLines a.buffer) = value then 0 else 1))) := by
  have hresult := Applying.result_digest hbody
  rw [← hresult]
  exact State.endTransfers_applied hended (by simp [hbody]) (.inl (by simp [hbody])) hopen hroom
    (by simp [hresult, Report.isApplied])

/-- A digest one of whose reads has failed does not match. -/
theorem State.endTransfers_digestFailed {s : State} {a : Applying} {tile value : BitVec 32}
    (hbody : a.body = .digest tile value) (hended : a.total ≤ a.done) (hfailed : a.failed = true)
    (hopen : s.link.state.isOpen = true) (hroom : s.link.reports.length + 2 ≤ 64) :
    s.endTransfers a = s.appliedWith a (some (.digestResult a.seq tile 1)) := by
  rw [State.endTransfers_digest hbody hended hopen hroom, if_neg (by simp [hfailed])]

/-- The frame in application with a write of it failed, which its report names (R159, R160). -/
def Applying.faulted (a : Applying) (tile : BitVec 32) : Applying :=
  { a with done := a.done + 1, failed := true, report := some (.faulted a.seq tile) }

/-- The digest in application with a read of it failed: the reads not outstanding leave the frame (R173). -/
def Applying.readFailed (a : Applying) : Applying :=
  { a with
    done := a.done + 1
    failed := true
    total := if a.failed then a.total else a.issued - a.waiting.length
    waiting := [] }

/-- The last write of a chunk or a mirror that has failed hands FAULTED. -/
theorem State.endTransfers_faulted {s : State} {a : Applying} {tile : BitVec 32} (hended : a.total ≤ a.done + 1)
    (hbody : a.body ≠ .handover) (hdigest : ∀ tile value, a.body ≠ .digest tile value)
    (hopen : s.link.state.isOpen = true) (hroom : s.link.reports.length + 2 ≤ 64) :
    s.endTransfers (a.faulted tile) = s.appliedWith a (some (.faulted a.seq tile)) := by
  have hresult : (a.faulted tile).result = some (.faulted a.seq tile) := Applying.result_other hdigest
  have happlied := State.endTransfers_applied (s := s) (a := a.faulted tile) hended hbody (.inr rfl) hopen hroom
    (by simp [hresult, Report.isApplied])
  rw [happlied, hresult]
  rfl

theorem State.applyFault_chunk {s : State} {a : Applying} {tile : BitVec 32} {chunk : Byte} {data : ChunkData}
    (h : a.body = .tileChunk tile chunk data) : s.applyFault a =
      (((s.makeInvalid tile.toNat).breakAssembly).latch .farFault).endTransfers (a.faulted tile) := by
  cases a
  cases h
  rfl

theorem State.applyFault_mirror {s : State} {a : Applying} {addr : Addr} {line : Bool} {mask : Mask} {data : Line}
    (h : a.body = .mirror addr line mask data) : s.applyFault a =
      ((s.makeInvalid (tileOf addr)).latch .farFault).endTransfers (a.faulted (BitVec.ofNat 32 (tileOf addr))) := by
  cases a
  cases h
  rfl

theorem State.applyFault_digest {s : State} {a : Applying} {tile value : BitVec 32} (h : a.body = .digest tile value) :
    s.applyFault a = s.endTransfers a.readFailed := by
  cases a
  cases h
  rfl

/-! ### The termination of a transfer (R6, R158) -/

/-- A termination goes to the owner of its transfer, which leaves the far port (R6). -/
theorem exec_farTermination_routed {s : State} {id : Nat} {x : FarTransfer}
    (hx : (s.mem.outstanding.find? fun x => x.id == id) = some x) (term : Term) :
    exec (.farTermination id term) s = .next ((s.withoutTransfer id).routeTermination x term) := by
  have hexec : exec (.farTermination id term) s = execFarTermination id term s := rfl
  rw [hexec, execFarTermination, hx]
  rfl

/-- A transfer fails: FAULT, or the last RETRY that is counted in a row (R103, R152, R158). -/
def FailsAt (term : Term) (retries : Nat) : Prop := term = .fault ∨ term = .retry ∧ retries + 1 = 32

/-- The frame in application with transfer n ended DONE. -/
def Applying.counted (a : Applying) (n : Nat) (data : Line) : Applying :=
  { a with
    done := a.done + 1
    retries := setRetry a.retries n 0
    buffer := match a.body with
      | .digest _ _ => a.buffer ++ [(n, data)]
      | _ => a.buffer }

theorem Applying.counted_other {a : Applying} (h : ∀ tile value, a.body ≠ .digest tile value) (n : Nat) (data : Line) :
    a.counted n data = { a with done := a.done + 1, retries := setRetry a.retries n 0 } := by
  unfold Applying.counted
  split
  · next tile value hbody => exact absurd hbody (h tile value)
  · rfl

theorem Applying.counted_digest {a : Applying} {tile value : BitVec 32} (h : a.body = .digest tile value) (n : Nat)
    (data : Line) : a.counted n data =
      { a with done := a.done + 1, retries := setRetry a.retries n 0, buffer := a.buffer ++ [(n, data)] } := by
  rw [Applying.counted, h]

/-- The frame in application with transfer n to be issued again. -/
def Applying.waits (a : Applying) (n : Nat) : Applying :=
  { a with retries := setRetry a.retries n (retryCount a.retries n + 1), waiting := a.waiting ++ [n] }

section
variable {s : State} {id n : Nat} {x : FarTransfer} {a : Applying}
  (hx : (s.mem.outstanding.find? fun x => x.id == id) = some x) (howner : x.owner = .apply n)
  (ha : s.rx.applying = some a)
include hx howner

theorem exec_farTermination_apply (term : Term) :
    exec (.farTermination id term) s = .next ((s.withoutTransfer id).applyTermination n term) := by
  rw [exec_farTermination_routed hx, State.routeTermination, howner]

include ha

theorem exec_farTermination_applyDone (data : Line) :
    exec (.farTermination id (.done data)) s = .next ((s.withoutTransfer id).endTransfers (a.counted n data)) := by
  have happlying : (s.withoutTransfer id).rx.applying = some a := ha
  rw [exec_farTermination_apply hx howner, State.applyTermination, happlying]
  rfl

theorem exec_farTermination_applyFails {term : Term} (h : FailsAt term (retryCount a.retries n)) :
    exec (.farTermination id term) s = .next ((s.withoutTransfer id).applyFault a) := by
  have happlying : (s.withoutTransfer id).rx.applying = some a := ha
  rw [exec_farTermination_apply hx howner, State.applyTermination, happlying]
  rcases h with rfl | ⟨rfl, hlast⟩
  · rfl
  · exact congrArg Host.Outcome.next (if_pos hlast)

/-- A RETRY makes the transfer wait, a read of a digest that has failed aside (R158). -/
theorem exec_farTermination_applyRetry (hagain : retryCount a.retries n + 1 ≠ 32)
    (hgoing : a.failed = false ∨ ∀ tile value, a.body ≠ .digest tile value) :
    exec (.farTermination id .retry) s = .next { s.withoutTransfer id with rx.applying := some (a.waits n) } := by
  have happlying : (s.withoutTransfer id).rx.applying = some a := ha
  rw [exec_farTermination_apply hx howner, State.applyTermination, happlying]
  refine congrArg Host.Outcome.next ((if_neg hagain).trans ?_)
  split
  · next tile value hbody hfailed =>
    rcases hgoing with h | h
    · exact absurd (h.symm.trans hfailed) Bool.false_ne_true
    · exact absurd hbody (h tile value)
  · rfl

/-- A RETRY after a read of a digest has failed ends its read. -/
theorem exec_farTermination_readRetry {tile value : BitVec 32} (hagain : retryCount a.retries n + 1 ≠ 32)
    (hbody : a.body = .digest tile value) (hfailed : a.failed = true) :
    exec (.farTermination id .retry) s = .next ((s.withoutTransfer id).endTransfers { a with done := a.done + 1 }) := by
  have happlying : (s.withoutTransfer id).rx.applying = some a := ha
  rw [exec_farTermination_apply hx howner, State.applyTermination, happlying]
  refine congrArg Host.Outcome.next ((if_neg hagain).trans ?_)
  simp only [hbody, hfailed]

/-! ### The writes of a chunk and of a mirror (R159, R160) -/

theorem exec_farTermination_writeDone (hdigest : ∀ tile value, a.body ≠ .digest tile value) (data : Line) :
    exec (.farTermination id (.done data)) s = .next ((s.withoutTransfer id).endTransfers
      { a with done := a.done + 1, retries := setRetry a.retries n 0 }) := by
  rw [exec_farTermination_applyDone hx howner ha, Applying.counted_other hdigest]

theorem exec_farTermination_chunkFails {term : Term} {tile : BitVec 32} {chunk : Byte} {data : ChunkData}
    (hbody : a.body = .tileChunk tile chunk data) (h : FailsAt term (retryCount a.retries n)) :
    exec (.farTermination id term) s = .next (((((s.withoutTransfer id).makeInvalid tile.toNat).breakAssembly).latch
      .farFault).endTransfers (a.faulted tile)) := by
  rw [exec_farTermination_applyFails hx howner ha h, State.applyFault_chunk hbody]

/-- The DONE of a mirror's write applies the frame (R160). -/
theorem exec_farTermination_mirrorDone {addr : Addr} {line : Bool} {mask : Mask} {data : Line}
    (hbody : a.body = .mirror addr line mask data) (hlast : a.total = a.done + 1) (hreport : a.report = none)
    (hopen : s.link.state.isOpen = true) (hroom : s.link.reports.length + 2 ≤ 64) (d : Line) :
    exec (.farTermination id (.done d)) s = .next ((s.withoutTransfer id).appliedWith a none) := by
  have hdigest : ∀ tile value, a.body ≠ .digest tile value := by simp [hbody]
  let b : Applying := { a with done := a.done + 1, retries := setRetry a.retries n 0 }
  have hresult : b.result = none := (Applying.result_other (a := b) hdigest).trans hreport
  have happlied := State.endTransfers_applied (s := s.withoutTransfer id) (a := b) hlast.le (by simp [b, hbody])
    (.inl (by simp [b, hbody])) hopen hroom (by simp [hresult])
  rw [exec_farTermination_writeDone hx howner ha hdigest, happlied, hresult]
  rfl

/-- The failed write of a mirror clears the tile's valid bit and hands FAULTED (R160). -/
theorem exec_farTermination_mirrorFails {term : Term} {addr : Addr} {line : Bool} {mask : Mask} {data : Line}
    (hbody : a.body = .mirror addr line mask data) (hlast : a.total = a.done + 1)
    (h : FailsAt term (retryCount a.retries n)) (hopen : s.link.state.isOpen = true)
    (hroom : s.link.reports.length + 2 ≤ 64) : exec (.farTermination id term) s =
      .next ((((s.withoutTransfer id).makeInvalid (tileOf addr)).latch .farFault).appliedWith a
        (some (.faulted a.seq (BitVec.ofNat 32 (tileOf addr))))) := by
  rw [exec_farTermination_applyFails hx howner ha h, State.applyFault_mirror hbody,
    State.endTransfers_faulted hlast.le (by simp [hbody]) (by simp [hbody]) (by exact hopen) (by exact hroom)]

/-! ### The reads of a digest (R173) -/

theorem exec_farTermination_readDone {tile value : BitVec 32} (hbody : a.body = .digest tile value) (d : Line) :
    exec (.farTermination id (.done d)) s = .next ((s.withoutTransfer id).endTransfers
      { a with done := a.done + 1, retries := setRetry a.retries n 0, buffer := a.buffer ++ [(n, d)] }) := by
  rw [exec_farTermination_applyDone hx howner ha, Applying.counted_digest hbody]

theorem exec_farTermination_readFails {term : Term} {tile value : BitVec 32} (hbody : a.body = .digest tile value)
    (h : FailsAt term (retryCount a.retries n)) :
    exec (.farTermination id term) s = .next ((s.withoutTransfer id).endTransfers a.readFailed) := by
  rw [exec_farTermination_applyFails hx howner ha h, State.applyFault_digest hbody]

section
variable {tile value : BitVec 32} (hbody : a.body = .digest tile value) (hopen : s.link.state.isOpen = true)
  (hroom : s.link.reports.length + 2 ≤ 64)
include hbody hopen hroom

/-- The DONE of the last read hands DIGEST_RESULT. -/
theorem exec_farTermination_lastRead (d : Line) (hlast : a.total ≤ a.done + 1) :
    exec (.farTermination id (.done d)) s = .next ((s.withoutTransfer id).appliedWith a (some (.digestResult a.seq tile
      (if a.failed = false ∧ digestOf (bufferLines (a.buffer ++ [(n, d)])) = value then 0 else 1)))) := by
  refine (exec_farTermination_readDone hx howner ha hbody d).trans (congrArg Host.Outcome.next ?_)
  exact State.endTransfers_digest (s := s.withoutTransfer id)
    (a := { a with done := a.done + 1, retries := setRetry a.retries n 0, buffer := a.buffer ++ [(n, d)] })
    hbody hlast hopen hroom

/-- A failed read with no further one outstanding hands a DIGEST_RESULT that does not match. -/
theorem exec_farTermination_lastReadFails {term : Term} (h : FailsAt term (retryCount a.retries n))
    (hlast : a.readFailed.total ≤ a.done + 1) : exec (.farTermination id term) s =
      .next ((s.withoutTransfer id).appliedWith a (some (.digestResult a.seq tile 1))) := by
  refine (exec_farTermination_readFails hx howner ha hbody h).trans (congrArg Host.Outcome.next ?_)
  exact State.endTransfers_digestFailed (s := s.withoutTransfer id) (a := a.readFailed) hbody hlast rfl hopen hroom

/-- So does the RETRY of the last one outstanding after a read has failed. -/
theorem exec_farTermination_lastReadRetry (hagain : retryCount a.retries n + 1 ≠ 32) (hfailed : a.failed = true)
    (hlast : a.total ≤ a.done + 1) : exec (.farTermination id .retry) s =
      .next ((s.withoutTransfer id).appliedWith a (some (.digestResult a.seq tile 1))) := by
  refine (exec_farTermination_readRetry hx howner ha hagain hbody hfailed).trans (congrArg Host.Outcome.next ?_)
  exact State.endTransfers_digestFailed (s := s.withoutTransfer id) (a := { a with done := a.done + 1 }) hbody hlast hfailed
    hopen hroom

end

end

end Sys2Proof.Machine
end

section
/-! SUPPORT. Rules of the zero fill's writes (R152, R162): how each way to end acts on the fill, where the fill goes on, and what it
leaves as it becomes complete. -/

namespace Sys2Proof.Machine

/-! ### The receiver's state (R140, R148) -/

/-- Entry to a state of the receiver, with the HELLO of a change while the link is open and the event of the SYNC line. -/
theorem State.enterReceiver_eq (s : State) (st : ReceiverState) : s.enterReceiver st =
    { s with
      rx.state := st
      link.control := if s.rx.state = st ∨ s.link.state.isOpen = false then s.link.control
        else controlAdd .hello s.link.control
      mgmt := s.syncMoved st } := by
  unfold State.enterReceiver
  by_cases hstate : s.rx.state = st
  · simp [State.syncMoved, ← hstate]
  · rw [if_neg hstate, State.helloOnChange_eq, State.syncEvent_eq]
    cases s.link.state.isOpen <;> simp [hstate, State.syncMoved]

theorem State.syncMoved_latches (s : State) (st : ReceiverState) : (s.syncMoved st).latches = s.mgmt.latches := by
  unfold State.syncMoved
  split <;> rfl

/-! ### What the moves of the fill keep -/

/-- The memory path, the valid bits and the latched conditions are kept. -/
structure State.FillKept (s t : State) : Prop where
  mem : t.mem = s.mem
  map : t.map = s.map
  latches : t.mgmt.latches = s.mgmt.latches

theorem State.FillKept.refl (s : State) : s.FillKept s := ⟨rfl, rfl, rfl⟩

theorem State.FillKept.trans {s u t : State} (hsu : s.FillKept u) (hut : u.FillKept t) : s.FillKept t where
  mem := hut.mem.trans hsu.mem
  map := hut.map.trans hsu.map
  latches := hut.latches.trans hsu.latches

theorem State.enterReceiver_fillKept (s : State) (st : ReceiverState) : s.FillKept (s.enterReceiver st) := by
  rw [State.enterReceiver_eq]
  exact ⟨rfl, rfl, s.syncMoved_latches st⟩

theorem State.tryFinish_fillKept (s : State) : s.FillKept s.tryFinish := by
  unfold State.tryFinish
  split
  · exact .refl s
  · next a _ =>
    split
    · have hhandover : s.FillKept (s.applyHandover a) := by
        unfold State.applyHandover
        split
        · exact .trans (u := { s with rx.demands := [], rx.expired := [] }) ⟨rfl, rfl, rfl⟩
            (State.enterReceiver_fillKept _ .live)
        · exact .refl s
      rw [State.finishFrame_frame]
      exact hhandover.trans ⟨rfl, rfl, rfl⟩
    · exact .refl s

/-- The fill is complete, and a SYNC_MARK that waited has taken the receiver to INSYNC (R152). -/
def State.filled (s : State) : State :=
  if s.rx.syncPending then State.enterReceiver { s with rx.fill := .complete, rx.syncPending := false } .insync
  else { s with rx.fill := .complete }

theorem State.fillComplete_eq_tryFinish (s : State) : s.fillComplete = s.filled.tryFinish := rfl

theorem State.filled_fillKept (s : State) : s.FillKept s.filled := by
  unfold State.filled
  split
  · exact .trans (u := { s with rx.fill := .complete, rx.syncPending := false }) ⟨rfl, rfl, rfl⟩
      (State.enterReceiver_fillKept _ .insync)
  · exact ⟨rfl, rfl, rfl⟩

theorem State.moveFill_fillKept (s : State) (runs : List (Nat × Nat)) (offset : Nat) :
    s.FillKept (s.moveFill runs offset) := by
  induction runs generalizing offset with
  | nil => exact s.filled_fillKept.trans s.filled.tryFinish_fillKept
  | cons run runs ih =>
    rw [State.moveFill]
    split
    · exact ⟨rfl, rfl, rfl⟩
    · exact ih 0

/-! ### The fill complete (R152, R162) -/

theorem State.filled_rx (s : State) : s.filled.rx =
    { s.rx with
      fill := .complete
      syncPending := false
      state := if s.rx.syncPending then .insync else s.rx.state } := by
  unfold State.filled
  split
  · rw [State.enterReceiver_eq]
  · next h => rw [← Bool.eq_false_of_not_eq_true h]

theorem State.filled_frame (s : State) : s.changesOnly s.filled [.rx, .link, .mgmt] := by
  unfold State.filled
  split
  · rw [State.enterReceiver_eq]
    intro b hb
    cases b with
    | rx | link | mgmt => simp at hb
    | _ => rfl
  · exact fun b hb => s.withRx_frame _ b fun h => hb (List.mem_cons.mpr (.inl (List.mem_singleton.mp h)))

theorem State.filled_reports (s : State) : s.filled.link.reports = s.link.reports := by
  unfold State.filled
  split
  · rw [State.enterReceiver_eq]
  · rfl

/-- With no frame in application the completion of the fill ends with the receiver's state. -/
theorem State.fillComplete_idle {s : State} (hnone : s.rx.applying = none) : s.fillComplete = s.filled := by
  refine State.tryFinish_unended fun a ha => ?_
  have hfilled : s.filled.rx.applying = none := by rw [State.filled_rx, hnone]
  exact absurd (ha.symm.trans hfilled) (Option.some_ne_none a)

/-- A HANDOVER that waited for the fill is applied as the fill becomes complete: the receiver enters LIVE (R162). -/
theorem State.tryFinish_handover {s : State} {a : Applying} (ha : s.rx.applying = some a) (hbody : a.body = .handover)
    (hended : a.total ≤ a.done) (hfill : s.rx.fill = .complete) (hactive : s.rx.state.active = true)
    (hroom : a.silent = true ∨ s.link.reports.length + 2 ≤ 64) : s.tryFinish.rx =
      { s.rx with
        state := .live
        demands := []
        expired := []
        applying := none
        appliedCount := s.tryFinish.rx.appliedCount } := by
  have hready : s.handoverReady a = true := by simp [State.handoverReady, hfill]
  have hfinish : s.finishRoom a = true := by
    rcases hroom with hsilent | hroom
    · simp [State.finishRoom, hsilent]
    · have hone : a.report.toList.length ≤ 1 := by cases a.report <;> simp
      have hfits : s.link.hasRoom (a.report.toList.length + if s.appliedDue then 1 else 0) = true :=
        decide_eq_true (by unfold Config.reportLimit; split_ifs <;> omega)
      rw [State.finishRoom, hfits, Bool.or_true]
  have happlied : s.tryFinish = (s.applyHandover a).finishFrame a := by
    simp only [State.tryFinish, ha, Applying.ended, hended, hready, hfinish, decide_true, Bool.and_self, if_true]
  have hlive : s.applyHandover a = State.enterReceiver { s with rx.demands := [], rx.expired := [] } .live :=
    if_pos (by simp [hbody, hactive])
  rw [happlied, State.finishFrame_frame, hlive, State.enterReceiver_eq]

/-! ### Where the fill goes on (R152) -/

/-- Where the fill of run k of a list looks first, from an offset in the first run. -/
def fillFrom (offset k base : Nat) : Nat := base + if k = 0 then offset else 0

/-- Every tile of run k that the fill has still to look at is valid. -/
def State.RunFilled (s : State) (runs : List (Nat × Nat)) (offset k : Nat) : Prop :=
  ∀ base count, runs[k]? = some (base, count) → ∀ u, fillFrom offset k base ≤ u → u < base + count → u < 131072 →
    s.map.getLsbD u = true

theorem State.runFilled_tail {s : State} {run : Nat × Nat} {runs : List (Nat × Nat)} {offset k : Nat}
    (h : s.RunFilled (run :: runs) offset (k + 1)) : s.RunFilled runs 0 k := by
  intro base count hrun u hstart
  refine h base count hrun u ?_
  cases k <;> exact hstart

/-- A run with every tile left valid is passed. -/
theorem State.moveFill_passes {s : State} {base count offset : Nat} {runs : List (Nat × Nat)}
    (h : s.RunFilled ((base, count) :: runs) offset 0) : s.moveFill ((base, count) :: runs) offset = s.moveFill runs 0 := by
  have hnone : firstTile (~~~ s.map &&& runMask base count) (base + offset) = none := by
    rw [firstTile_eq_none_iff]
    refine fun u hu => Bool.eq_false_of_not_eq_true fun hbit => ?_
    obtain ⟨hwindow, hclear, -, hhigh⟩ := (s.getLsbD_unfilled base count u).mp hbit
    exact Bool.false_ne_true (hclear.symm.trans (h base count rfl u hu hhigh hwindow))
  rw [State.moveFill, hnone]

theorem State.moveFill_complete {s : State} {runs : List (Nat × Nat)} {offset : Nat}
    (h : ∀ k, s.RunFilled runs offset k) : s.moveFill runs offset = s.fillComplete := by
  induction runs generalizing offset with
  | nil => rfl
  | cons run runs ih => exact (State.moveFill_passes (h 0)).trans (ih fun k => State.runFilled_tail (h (k + 1)))

/-- The fill stands at the first tile that is not valid. -/
theorem State.moveFill_stands {s : State} {runs : List (Nat × Nat)} {offset k base count tile : Nat}
    (hrun : runs[k]? = some (base, count)) (hstart : fillFrom offset k base ≤ tile) (hhigh : tile < base + count)
    (hwindow : tile < 131072) (hclear : s.map.getLsbD tile = false)
    (hbelow : ∀ v, fillFrom offset k base ≤ v → v < tile → s.map.getLsbD v = true)
    (hpassed : ∀ j, j < k → s.RunFilled runs offset j) : s.moveFill runs offset =
      { s with rx.fill := .running ⟨runs.drop k, tile - base, 0, 0, [], []⟩ } := by
  induction k generalizing runs offset with
  | zero =>
    cases runs with
    | nil => exact absurd hrun (by simp)
    | cons run runs =>
      obtain rfl : run = (base, count) := Option.some.inj hrun
      have hlow : base ≤ tile := (Nat.le_add_right base _).trans hstart
      have hfirst : firstTile (~~~ s.map &&& runMask base count) (base + offset) = some tile := by
        refine (firstTile_eq_some_iff _ _ _).mpr
          ⟨hstart, (s.getLsbD_unfilled base count tile).mpr ⟨hwindow, hclear, hlow, hhigh⟩, fun v hv hvt => ?_⟩
        refine Bool.eq_false_of_not_eq_true fun hbit => ?_
        obtain ⟨-, hvclear, -⟩ := (s.getLsbD_unfilled base count v).mp hbit
        exact Bool.false_ne_true (hvclear.symm.trans (hbelow v hv hvt))
      rw [State.moveFill, hfirst]
      rfl
  | succ k ih =>
    cases runs with
    | nil => exact absurd hrun (by simp)
    | cons run runs =>
      have hfrom : fillFrom 0 k base = fillFrom offset (k + 1) base := by cases k <;> rfl
      rw [State.moveFill_passes (hpassed 0 k.succ_pos)]
      exact ih hrun (hfrom ▸ hstart) (hfrom ▸ hbelow) fun j hj => State.runFilled_tail (hpassed (j + 1) (Nat.succ_lt_succ hj))

/-- Behind the tile it stands at the fill looks at the next one of its run, then at the later runs. -/
theorem FillPosition.fillFrom_eq {p : FillPosition} {k base count : Nat} (hrun : p.runs[k]? = some (base, count)) :
    fillFrom (p.offset + 1) k base = if k = 0 then p.tile + 1 else base := by
  cases k with
  | zero =>
    unfold FillPosition.tile
    cases hruns : p.runs with
    | nil => simp [hruns] at hrun
    | cons run runs =>
      rw [hruns] at hrun
      obtain rfl : run = (base, count) := Option.some.inj hrun
      rfl
  | succ k => rfl

/-- With no frame in application the fill moves without a change to the demand table and the expired list. -/
theorem State.moveFill_demands {s : State} (hnone : s.rx.applying = none) (runs : List (Nat × Nat)) (offset : Nat) :
    (s.moveFill runs offset).rx.demands = s.rx.demands ∧ (s.moveFill runs offset).rx.expired = s.rx.expired := by
  induction runs generalizing offset with
  | nil =>
    rw [State.moveFill, State.fillComplete_idle hnone, State.filled_rx]
    exact ⟨rfl, rfl⟩
  | cons run runs ih =>
    rw [State.moveFill]
    split
    · exact ⟨rfl, rfl⟩
    · exact ih 0

/-! ### The termination of a write (R6, R152) -/

/-- A tile's fill has failed: its writes still outstanding are abandoned (R152). -/
def State.fillFailed (s : State) (tile : Nat) : State :=
  (s.latch .farFault).abandonOwned fun o => match o with
    | .fill t _ => t == tile
    | _ => false

theorem State.fillFailed_owner {s : State} {tile : Nat} {x : FarTransfer} (hx : x ∈ (s.fillFailed tile).mem.outstanding)
    (line : Nat) : x.owner ≠ .fill tile line := by
  obtain ⟨y, -, rfl⟩ := List.mem_map.mp hx
  cases hy : y.owner <;> simp [hy]
  split_ifs with h <;> simp [hy, h]

theorem State.fillFault_eq (s : State) (p : FillPosition) :
    s.fillFault p = (s.fillFailed p.tile).moveFill p.runs (p.offset + 1) := rfl

section
variable {s : State} {id line : Nat} {x : FarTransfer} {p : FillPosition}
  (hx : (s.mem.outstanding.find? fun x => x.id == id) = some x) (hp : s.rx.fill = .running p)
  (howner : x.owner = .fill p.tile line)
include hx hp howner

theorem exec_farTermination_fillDone (data : Line) (h : p.done + 1 ≠ 512) :
    exec (.farTermination id (.done data)) s = .next { s.withoutTransfer id with
      rx.fill := .running { p with done := p.done + 1, retries := setRetry p.retries line 0 } } := by
  have hfill : (s.withoutTransfer id).rx.fill = .running p := hp
  rw [exec_farTermination_routed hx, State.routeTermination, howner]
  simp only [State.fillTermination, hfill, if_true]
  exact congrArg Host.Outcome.next (if_neg h)

theorem exec_farTermination_fillLast (data : Line) (h : p.done + 1 = 512) :
    exec (.farTermination id (.done data)) s =
      .next (((s.withoutTransfer id).makeValid p.tile).moveFill p.runs (p.offset + 1)) := by
  have hfill : (s.withoutTransfer id).rx.fill = .running p := hp
  rw [exec_farTermination_routed hx, State.routeTermination, howner]
  simp only [State.fillTermination, hfill, if_true]
  exact congrArg Host.Outcome.next (if_pos h)

theorem exec_farTermination_fillRetry (h : retryCount p.retries line + 1 ≠ 32) :
    exec (.farTermination id .retry) s = .next { s.withoutTransfer id with
      rx.fill := .running
        { p with
          retries := setRetry p.retries line (retryCount p.retries line + 1)
          waiting := p.waiting ++ [line] } } := by
  have hfill : (s.withoutTransfer id).rx.fill = .running p := hp
  rw [exec_farTermination_routed hx, State.routeTermination, howner]
  simp only [State.fillTermination, hfill, if_true]
  exact congrArg Host.Outcome.next (if_neg h)

theorem exec_farTermination_fillFails {term : Term} (h : FailsAt term (retryCount p.retries line)) :
    exec (.farTermination id term) s =
      .next (((s.withoutTransfer id).fillFailed p.tile).moveFill p.runs (p.offset + 1)) := by
  have hfill : (s.withoutTransfer id).rx.fill = .running p := hp
  rw [exec_farTermination_routed hx, State.routeTermination, howner, ← State.fillFault_eq]
  rcases h with rfl | ⟨rfl, hlast⟩
  · simp only [State.fillTermination, hfill, if_true]
  · simp only [State.fillTermination, hfill, if_true]
    exact congrArg Host.Outcome.next (if_pos hlast)

end

end Sys2Proof.Machine
end

section
/-! SUPPORT. Rules of what follows the last write of a chunk 63 and the end of a tile's fill (R152, R159, R162): what the whole
assembly and the broken one leave, and how the fill goes on or becomes complete. -/

namespace Sys2Proof.Machine

/-! ### The last write of a chunk 63 (R159) -/

/-- The last DONE of a whole assembly sets the tile's valid bit, and the tile leaves the demand table and the expired list. -/
theorem State.endTransfers_whole {s : State} {a : Applying} {tile : BitVec 32} {data : ChunkData} {m : Assembly}
    (hended : a.total ≤ a.done) (hbody : a.body = .tileChunk tile 63 data) (hfailed : a.failed = false)
    (hm : s.rx.assembly = some m) (htile : m.tile = tile.toNat) (hnext : m.next = 64) (hbroken : m.broken = false) :
    ∃ link applying count, s.endTransfers a =
      { s with
        map := setBit s.map tile.toNat
        link := link
        rx := { s.rx with
          assembly := none
          demands := s.rx.demands.filter fun e => e.tile != tile.toNat
          expired := s.rx.expired.filter fun u => u != tile.toNat
          applying := applying
          appliedCount := count } } := by
  have hwhole : State.endAssembly { s with rx.applying := some a } tile.toNat
      = State.makeValid { s with rx.applying := some a, rx.assembly := none } tile.toNat :=
    htile ▸ State.endAssembly_whole (s := { s with rx.applying := some a }) hm hnext hbroken
  rw [State.endTransfers_lastChunk hended hbody, if_neg (by simp [hfailed]), hwhole, State.tryFinish_frame]
  · exact ⟨_, _, _, rfl⟩
  · rintro _ ⟨⟩
    simp [hbody]

/-- A broken assembly, and a chunk of which a write has failed, leave the tile's valid bit (R159). -/
theorem State.endTransfers_broken_map {s : State} {a : Applying} {tile : BitVec 32} {data : ChunkData} {m : Assembly}
    (hended : a.total ≤ a.done) (hbody : a.body = .tileChunk tile 63 data) (hm : s.rx.assembly = some m)
    (h : m.broken = true ∨ a.failed = true) : (s.endTransfers a).map = s.map := by
  have hleft : (if a.failed then { s with rx.applying := some a }
      else State.endAssembly { s with rx.applying := some a } tile.toNat) = { s with rx.applying := some a } := by
    rcases h with hbroken | hfailed
    · rw [State.endAssembly_broken (s := { s with rx.applying := some a }) hm hbroken, ite_self]
    · exact if_pos hfailed
  rw [State.endTransfers_lastChunk hended hbody, hleft]
  exact (State.tryFinish_fillKept _).map

/-! ### Behind a tile of the fill (R152) -/

/-- The fill has ended with a tile and is about to move on: of the receiver only the demand table and the expired list may have
changed, and of the part the far port, the valid bits and the latched conditions. -/
structure State.FillMovesOn (s u : State) : Prop where
  rx : u.rx = { s.rx with demands := u.rx.demands, expired := u.rx.expired }
  frame : s.changesOnly u [.mem, .map, .rx, .mgmt]

namespace State.FillMovesOn

variable {s u : State} (h : s.FillMovesOn u)
include h

theorem applying : u.rx.applying = s.rx.applying := by rw [h.rx]

theorem stands (fill : Fill) : { u.rx with fill := fill } =
    { s.rx with fill := fill, demands := u.rx.demands, expired := u.rx.expired } :=
  congrArg (fun r : Receiver => { r with fill := fill }) h.rx

theorem stands_frame (fill : Fill) : s.changesOnly { u with rx.fill := fill } [.mem, .map, .rx, .mgmt] :=
  State.changesOnly_trans h.frame (u.withRx_frame _) (List.Subset.refl _) (by simp)

theorem fillComplete_idle (hnone : s.rx.applying = none) : u.fillComplete = u.filled :=
  State.fillComplete_idle (h.applying.trans hnone)

/-- With no frame in application and no sync pending the fill only becomes complete. -/
theorem filled_level (hpending : s.rx.syncPending = false) : u.filled = { u with rx.fill := .complete } := by
  have hpending' : u.rx.syncPending = false := by rw [h.rx, hpending]
  exact if_neg (by simp [hpending'])

/-- A SYNC_MARK that waited takes the receiver to INSYNC. -/
theorem filled_rise (hpending : s.rx.syncPending = true) : u.filled.rx.state = .insync := by
  have hpending' : u.rx.syncPending = true := by rw [h.rx, hpending]
  rw [State.filled_rx, hpending']
  rfl

theorem filled_frame : s.changesOnly u.filled [.mem, .map, .rx, .link, .mgmt] :=
  State.changesOnly_trans h.frame u.filled_frame (by simp) (by simp)

/-- A HANDOVER that waited for the fill is applied. -/
theorem fillComplete_handover {a : Applying} (ha : s.rx.applying = some a) (hbody : a.body = .handover)
    (hended : a.total ≤ a.done) (hstate : s.rx.state = .receiving ∨ s.rx.state = .insync)
    (hroom : a.silent = true ∨ s.link.reports.length + 2 ≤ 64) :
    u.fillComplete.rx.state = .live ∧ u.fillComplete.rx.fill = .complete ∧ u.fillComplete.rx.applying = none
      ∧ u.fillComplete.rx.demands = [] ∧ u.fillComplete.rx.expired = [] := by
  have happlying : u.filled.rx.applying = some a := by rw [State.filled_rx, ← ha, ← h.applying]
  have hactive : u.filled.rx.state.active = true := by
    have hbefore : u.rx.state.active = true := by rw [h.rx, ReceiverState.active_iff]; exact hstate
    rw [State.filled_rx]
    cases u.rx.syncPending
    · exact hbefore
    · rfl
  have hlink : u.link = s.link := h.frame .link (by simp)
  have hfinished := State.tryFinish_handover happlying hbody hended (by rw [State.filled_rx]) hactive
    (by rwa [State.filled_reports, hlink])
  rw [State.fillComplete_eq_tryFinish, hfinished, State.filled_rx]
  exact ⟨rfl, rfl, rfl, rfl, rfl⟩

end State.FillMovesOn

theorem State.makeValid_movesOn (s : State) (id tile : Nat) : s.FillMovesOn ((s.withoutTransfer id).makeValid tile) where
  rx := rfl
  frame b hb := by
    cases b with
    | mem | map | rx | mgmt => simp at hb
    | _ => rfl

theorem State.fillFailed_movesOn (s : State) (id tile : Nat) : s.FillMovesOn ((s.withoutTransfer id).fillFailed tile) where
  rx := rfl
  frame b hb := by
    cases b with
    | mem | map | rx | mgmt => simp at hb
    | _ => rfl

/-- A write that fills its tile, or fails it, leaves the fill to move on behind the tile. -/
theorem exec_farTermination_fillEnds {s : State} {id line : Nat} {x : FarTransfer} {p : FillPosition} {term : Term}
    (hx : (s.mem.outstanding.find? fun x => x.id == id) = some x) (hp : s.rx.fill = .running p)
    (howner : x.owner = .fill p.tile line)
    (h : (∃ d, term = .done d) ∧ p.done + 1 = 512 ∨ FailsAt term (retryCount p.retries line)) :
    ∃ u, exec (.farTermination id term) s = .next (u.moveFill p.runs (p.offset + 1)) ∧ s.FillMovesOn u
      ∧ ((∃ d, term = .done d) → u = (s.withoutTransfer id).makeValid p.tile)
      ∧ (FailsAt term (retryCount p.retries line) → u = (s.withoutTransfer id).fillFailed p.tile) := by
  rcases h with ⟨⟨d, rfl⟩, hlast⟩ | h
  · exact ⟨_, exec_farTermination_fillLast hx hp howner d hlast, s.makeValid_movesOn id p.tile, fun _ => rfl,
      by simp [FailsAt]⟩
  · refine ⟨_, exec_farTermination_fillFails hx hp howner h, s.fillFailed_movesOn id p.tile, ?_, fun _ => rfl⟩
    rcases h with rfl | ⟨rfl, -⟩ <;> simp

end Sys2Proof.Machine

/-! PROOFS. How the receiver's transfers end (R36, R152, R155, R158 to R160, R162, R163, R165, R173): O27. -/

namespace Sys2Proof.Proofs
open Sys2Proof.Machine

/-- Settles O27: each way a transfer ends acts on the frame in application, or on the fill, by the rule of its kind; a frame whose
last transfer has ended is applied, and a fill that has ended with a tile goes on behind it or becomes complete. -/
theorem receiverWritesEnd : Obligations.ReceiverWritesEnd := by
  refine ⟨fun id n s x a tile chunk data hx howner ha hbody => ?_, fun id n s x a hx howner ha hopen hroom => ?_,
    fun id line term s x p hx hp howner => ?_⟩
  · intro s1
    have hdigest : ∀ tile value, a.body ≠ .digest tile value := by simp [hbody]
    have hdone := exec_farTermination_writeDone hx howner ha hdigest
    let counted : Applying := { a with done := a.done + 1, retries := setRetry a.retries n 0 }
    refine ⟨fun d hmore => ?_, fun d m hlast hchunk hfailed hm htile hnext hbroken => ?_,
      fun d m hlast hchunk hm hbad => ?_, fun term hfails => ⟨fun hmore => ?_, fun hlast hopen hroom => ?_⟩,
      fun hagain => exec_farTermination_applyRetry hx howner ha hagain (.inr hdigest)⟩
    · rw [hdone, State.endTransfers_going hmore]
      rfl
    · subst hchunk
      obtain ⟨link, applying, count, happlied⟩ := State.endTransfers_whole (s := s1) (a := counted) hlast.ge hbody hfailed
        hm htile hnext hbroken
      refine ⟨_, (hdone d).trans (congrArg Host.Outcome.next happlied), rfl, rfl, rfl, rfl, rfl, rfl, fun b hb => ?_⟩
      cases b with
      | mem | map | rx | link => simp at hb
      | _ => rfl
    · subst hchunk
      exact ⟨_, hdone d, State.endTransfers_broken_map (s := s1) (a := counted) hlast.ge hbody hm hbad⟩
    · rw [exec_farTermination_chunkFails hx howner ha hbody hfails, State.endTransfers_going hmore]
      rfl
    · rw [exec_farTermination_chunkFails hx howner ha hbody hfails,
        State.endTransfers_faulted hlast.ge (by simp [hbody]) hdigest (by exact hopen) (by exact hroom)]
      rfl
  · intro s1 goesOn applied fails
    refine ⟨fun addr line mask data hbody hlast hreport => ⟨?_, fun term hfails => ?_, fun hagain => ?_⟩,
      fun tile value hbody => ⟨fun d => ⟨fun hmore => ?_, fun hlast => ?_⟩,
        fun term hfails => ⟨fun hmore => ?_, fun hlast => ?_⟩,
        fun hagain => ⟨fun hfailed => ?_, fun hfailed hmore => ?_, fun hfailed hlast => ?_⟩⟩⟩
    · exact exec_farTermination_mirrorDone hx howner ha hbody hlast hreport hopen hroom
    · exact exec_farTermination_mirrorFails hx howner ha hbody hlast hfails hopen hroom
    · exact exec_farTermination_applyRetry hx howner ha hagain (.inr (by simp [hbody]))
    · rw [exec_farTermination_readDone hx howner ha hbody, State.endTransfers_going hmore]
      rfl
    · exact exec_farTermination_lastRead hx howner ha hbody hopen hroom d hlast
    · rw [exec_farTermination_readFails hx howner ha hbody hfails, State.endTransfers_going hmore]
      rfl
    · exact exec_farTermination_lastReadFails hx howner ha hbody hopen hroom hfails hlast
    · exact exec_farTermination_applyRetry hx howner ha hagain (.inl hfailed)
    · rw [exec_farTermination_readRetry hx howner ha hagain hbody hfailed, State.endTransfers_going hmore]
      rfl
    · exact exec_farTermination_lastReadRetry hx howner ha hbody hopen hroom hagain hfailed hlast
  · intro s1
    refine ⟨?_, ?_, ?_⟩
    · rintro d rfl
      exact exec_farTermination_fillDone hx hp howner d
    · rintro rfl
      exact exec_farTermination_fillRetry hx hp howner
    · intro fills fails map start full hends
      obtain ⟨u, hexec, hon, hfills, hfails⟩ := exec_farTermination_fillEnds hx hp howner hends
      have hmap : u.map = map := by
        rcases hends with ⟨⟨d, rfl⟩, hlast⟩ | hfailed
        · rw [hfills ⟨d, rfl⟩]
          rfl
        · rw [hfails hfailed]
          rcases hfailed with rfl | ⟨rfl, -⟩ <;> rfl
      have hkept := u.moveFill_fillKept p.runs (p.offset + 1)
      have hfull : ∀ k, full k → u.RunFilled p.runs (p.offset + 1) k := fun k h base count hrun v hv hhigh hwindow => by
        rw [FillPosition.fillFrom_eq hrun] at hv
        rw [hmap]
        exact h base count hrun v hv hhigh hwindow
      have hdemands : fails → u.rx.demands = s.rx.demands ∧ u.rx.expired = s.rx.expired := fun h => by
        rw [hfails h]
        exact ⟨rfl, rfl⟩
      refine ⟨_, hexec, hkept.map.trans hmap, fun h => ?_, fun h => ?_, ?_, ?_, ?_⟩
      · rw [hfills h.1] at hkept ⊢
        exact ⟨hkept.mem, fun hnone => State.moveFill_demands (by exact hnone) _ _⟩
      · rw [hfails h] at hkept ⊢
        refine ⟨?_, fun y hy l => State.fillFailed_owner (hkept.mem ▸ hy) l⟩
        rw [State.latched, hkept.latches]
        exact s1.latched_latch .farFault
      · intro k base count tile hrun hstart hhigh hwindow hclear hbelow hpassed
        have hfrom : fillFrom (p.offset + 1) k base = start k base := FillPosition.fillFrom_eq hrun
        rw [State.moveFill_stands hrun (hfrom ▸ hstart) hhigh hwindow (hmap ▸ hclear) (hmap ▸ hfrom ▸ hbelow)
          fun j hj => hfull j (hpassed j hj)]
        exact ⟨hon.stands _, hdemands, hon.stands_frame _⟩
      · intro hall a ha hbody hended hstate hroom
        rw [State.moveFill_complete fun k => hfull k (hall k)]
        exact hon.fillComplete_handover ha hbody hended hstate hroom
      · intro hall hnone
        rw [State.moveFill_complete fun k => hfull k (hall k), hon.fillComplete_idle hnone]
        refine ⟨fun hpending => ?_, fun hpending _ => ?_⟩
        · rw [hon.filled_level hpending]
          exact ⟨hon.stands _, hdemands, hon.stands_frame _⟩
        · have hrise := hon.filled_rise hpending
          have hrx := u.filled_rx
          exact ⟨hrise, by rw [hrx], by rw [hrx], hon.filled_frame⟩

end Sys2Proof.Proofs
end
